-- ==== Sys2Proof/Word.lean ====
section
/-! DEFINITION. The widths of the block (spec rule R7) and the names of its four apertures (rule R5). -/

namespace Sys2Proof

/-- A register, a permission-RAM entry, or an aperture or poison address: 32 bits (rule R7). -/
abbrev Word := BitVec 32

/-- One byte of the permission RAM as the configuration window numbers its bytes (rule R56). -/
abbrev Byte := BitVec 8

/-- The four apertures, "four fixed granularities — 32-byte, 64KB, 1MB, 512MB" (rule R5). -/
inductive Aperture where
  | ap32b
  | ap64kb
  | ap1mb
  | ap512mb
deriving DecidableEq, Repr

end Sys2Proof
end

