-- ==== Sys2Proof/Config.lean ====
section
/-! DEFINITION. The parameters of one instance (rules R5, R6, R37, R78), with the spec's defaults, and the
values the spec leaves free (RAM_ADJ_RESET and the downstream's answers). -/

namespace Sys2Proof

/-- The answer code of a bus access. `ok` is the one response the spec names (rule R100); the downstream may
answer anything (rule R53), so every other code is carried uninterpreted. -/
inductive BusResp where
  | ok
  | other (code : Nat)
deriving DecidableEq, Repr, Inhabited

/-- One row of the `APERTURES` table (rule R78) with its `WINDOW_SIZE` (rules R6, R52). -/
structure ApertureDesc where
  /-- Base address, also the value of the `BASE_*` register. -/
  base : Word
  /-- log2 of the granularity. -/
  shift : Nat
  /-- Index mask of rule R85. -/
  mask : Word
  /-- First permission-RAM entry. -/
  ramBase : Nat
  /-- Entry count, also the value of the `M_APERTURE_*` register. -/
  entries : Nat
  /-- Size of the window in bytes. -/
  windowSize : Nat
deriving DecidableEq, Repr

/-- The configuration of one instance: "fixed for the life of the instance" (rule R37). The model carries it in
`State.cfg`, and no step changes it, so that a statement about every state speaks of every parameter value. -/
structure Config where
  /-- `NR_APL`, the number of permission-RAM words (rules R6, R28). -/
  nrApl : Nat
  /-- `CFG_WINDOW_SIZE`, the bytes of the configuration window (rules R6, R51). -/
  cfgWindowSize : Nat
  ap32b : ApertureDesc
  ap64kb : ApertureDesc
  ap1mb : ApertureDesc
  ap512mb : ApertureDesc
  /-- `IMR_RESET`. -/
  imrReset : BitVec 8
  /-- `POISON_RESET`. -/
  poisonReset : BitVec 20
  /-- `MID_RESET[0..3]`. -/
  midReset : Vector Word 4
  /-- `LATCH_BLOCK_MASK` (rule R202). -/
  latchBlockMask : BitVec 8
  /-- `REVALIDATE_SETS_ISR` (rule R101). -/
  revalidateSetsIsr : Bool
  /-- `POISON_WRITABLE` (rule R109). -/
  poisonWritable : Bool
deriving DecidableEq, Repr

/-- The descriptor of an aperture. -/
def Config.aperture (c : Config) : Aperture → ApertureDesc
  | .ap32b => c.ap32b
  | .ap64kb => c.ap64kb
  | .ap1mb => c.ap1mb
  | .ap512mb => c.ap512mb

/-- `NR_MID` (rule R5). -/
def nrMid : Nat := 20

/-- The offset lies in the configuration window, "0 ≤ off < `CFG_WINDOW_SIZE`" (rule R51). -/
def Config.decodes (c : Config) (off : Nat) : Bool := decide (off < c.cfgWindowSize)

/-- First byte offset of the permission-RAM window (rules R5, R51). -/
def ramWindowBase : Nat := 0x1000

/-- The defaults of rules R6, R52 and R78. PRESUMED: the spec takes them from general knowledge
(notes/assumptions/2.md). -/
def Config.default : Config where
  nrApl := 401
  cfgWindowSize := 0x10000
  ap32b :=
    { base := 0xFF990000#32, shift := 5, mask := 0x7F#32, ramBase := 256, entries := 128,
      windowSize := 0x1000 }
  ap64kb :=
    { base := 0xFF000000#32, shift := 16, mask := 0xFF#32, ramBase := 0, entries := 256,
      windowSize := 0x01000000 }
  ap1mb :=
    { base := 0xFE000000#32, shift := 20, mask := 0xF#32, ramBase := 384, entries := 16,
      windowSize := 0x01000000 }
  ap512mb :=
    { base := 0xC0000000#32, shift := 29, mask := 0x0#32, ramBase := 400, entries := 1,
      windowSize := 0x20000000 }
  imrReset := 0xEF#8
  poisonReset := 0xFF9C0#20
  midReset := #v[0x83FF0040#32, 0x03F00000#32, 0x83F00010#32, 0x83C00080#32]
  latchBlockMask := 0xE6#8
  revalidateSetsIsr := true
  poisonWritable := true

/-- An aperture row whose index cannot leave the aperture's entries, nor these a permission RAM of `n` words: "Because
`mask` < `entries` for every row of rule R78, k always lies in the aperture's RAM range" (rule R85). -/
def ApertureDesc.wf (n : Nat) (d : ApertureDesc) : Bool :=
  decide (d.mask.toNat < d.entries) && decide (d.ramBase + d.entries ≤ n)

/-- All four rows keep inside the permission RAM. -/
def Config.wf (c : Config) : Bool :=
  c.ap32b.wf c.nrApl && c.ap64kb.wf c.nrApl && c.ap1mb.wf c.nrApl && c.ap512mb.wf c.nrApl

/-! ### Free values

No body: nothing in Lean can evaluate them or prove a value of one. Each is applied to the number of the draw
(`State.draws`), so that two draws need not agree. -/

/-- `RAM_ADJ_RESET`: "OPEN: a draw" (rules R27, R270; item I1 of 93_implementation_defined.md). -/
opaque Config.ramAdjReset : Nat → Word

/-- The bytes a downstream read of `size` bytes at `addr` returns (rule R53; items I16, I17). -/
opaque Config.downReadData : Nat → (addr : Word) → (size : Nat) → BitVec 64

/-- The response of a downstream read (rule R53). -/
opaque Config.downReadResp : Nat → (addr : Word) → (size : Nat) → BusResp

/-- The response of a downstream write (rule R53). -/
opaque Config.downWriteResp : Nat → (addr : Word) → (size : Nat) → (data : BitVec 64) → BusResp

end Sys2Proof
end

