-- ==== Sys2Proof/Syntax.lean ====
section
/-! DEFINITION. What the host delivers to the block (rules R10, R59, R270) and the operations of
spec/opcode_table.json, one constructor per row. -/

namespace Sys2Proof

/-- A bus transaction as presented to the block: the attributes of rule R10, and the atomic attribute of
rule R62. The window is kept as its 3-bit code (rule R71), since codes 101 to 111 can be presented too. -/
structure Transaction where
  /-- Window code. -/
  win : BitVec 3
  /-- `dir`: true for a write. -/
  write : Bool
  /-- Byte offset relative to the window base. -/
  off : Word
  /-- Bytes. -/
  size : Nat
  /-- An atomic or exclusive attribute (rule R62). -/
  atomic : Bool
  /-- The requester's master id. -/
  masterId : Word
  /-- The `secure` attribute. -/
  secure : Bool
  /-- The payload on a write. -/
  data : BitVec 64
deriving DecidableEq, Repr

/-- What can be delivered to the block: a transaction, or the reset signal, which "is not decoded from a key"
(rule R72). -/
inductive Delivery where
  | transaction (t : Transaction)
  | reset
deriving DecidableEq, Repr

/-- The decode key `(win, dir, off)` of rule R70, bits 35:33, 32 and 31:0. -/
def Transaction.key (t : Transaction) : BitVec 36 :=
  (t.win ++ BitVec.ofBool t.write) ++ t.off

/-- The operations, in the order of spec/opcode_table.json. Operands: `secure` and the 32-bit `data` of a
configuration access (rule R100); `k`, the index inside a permission-RAM sub-block (rules R192 to R199); `off` of a
hole or out-of-range access (rules R87, R88); offset, size, master id, `secure` and payload of an aperture
access (rule R200). -/
inductive Instr where
  /-- `CFG_RD.CTRL` (rule R102). -/
  | cfgRdCtrl (secure : Bool)
  /-- `CFG_WR.CTRL` (rule R103). -/
  | cfgWrCtrl (secure : Bool) (data : Word)
  /-- `CFG_RD.ERR_STATUS1` (rule R104). -/
  | cfgRdErrStatus1 (secure : Bool)
  /-- `CFG_WR.ERR_STATUS1` (rule R105). -/
  | cfgWrErrStatus1 (secure : Bool) (data : Word)
  /-- `CFG_RD.ERR_STATUS2` (rule R106). -/
  | cfgRdErrStatus2 (secure : Bool)
  /-- `CFG_WR.ERR_STATUS2` (rule R107). -/
  | cfgWrErrStatus2 (secure : Bool) (data : Word)
  /-- `CFG_RD.POISON` (rule R108). -/
  | cfgRdPoison (secure : Bool)
  /-- `CFG_WR.POISON` (rule R109). -/
  | cfgWrPoison (secure : Bool) (data : Word)
  /-- `CFG_RD.ISR` (rule R110). -/
  | cfgRdIsr (secure : Bool)
  /-- `CFG_WR.ISR` (rule R111). -/
  | cfgWrIsr (secure : Bool) (data : Word)
  /-- `CFG_RD.IMR` (rule R112). -/
  | cfgRdImr (secure : Bool)
  /-- `CFG_WR.IMR` (rule R113). -/
  | cfgWrImr (secure : Bool) (data : Word)
  /-- `CFG_RD.IEN` (rule R114). -/
  | cfgRdIen (secure : Bool)
  /-- `CFG_WR.IEN` (rule R115). -/
  | cfgWrIen (secure : Bool) (data : Word)
  /-- `CFG_RD.IDS` (rule R116). -/
  | cfgRdIds (secure : Bool)
  /-- `CFG_WR.IDS` (rule R117). -/
  | cfgWrIds (secure : Bool) (data : Word)
  /-- `CFG_RD.M_MASTER_IDS` (rule R118). -/
  | cfgRdMMasterIds (secure : Bool)
  /-- `CFG_WR.M_MASTER_IDS` (rule R119). -/
  | cfgWrMMasterIds (secure : Bool) (data : Word)
  /-- `CFG_RD.M_APERTURE_32B` (rule R120). -/
  | cfgRdMAperture32b (secure : Bool)
  /-- `CFG_WR.M_APERTURE_32B` (rule R121). -/
  | cfgWrMAperture32b (secure : Bool) (data : Word)
  /-- `CFG_RD.M_APERTURE_64KB` (rule R122). -/
  | cfgRdMAperture64kb (secure : Bool)
  /-- `CFG_WR.M_APERTURE_64KB` (rule R123). -/
  | cfgWrMAperture64kb (secure : Bool) (data : Word)
  /-- `CFG_RD.M_APERTURE_1MB` (rule R124). -/
  | cfgRdMAperture1mb (secure : Bool)
  /-- `CFG_WR.M_APERTURE_1MB` (rule R125). -/
  | cfgWrMAperture1mb (secure : Bool) (data : Word)
  /-- `CFG_RD.M_APERTURE_512MB` (rule R126). -/
  | cfgRdMAperture512mb (secure : Bool)
  /-- `CFG_WR.M_APERTURE_512MB` (rule R127). -/
  | cfgWrMAperture512mb (secure : Bool) (data : Word)
  /-- `CFG_RD.BASE_32B` (rule R128). -/
  | cfgRdBase32b (secure : Bool)
  /-- `CFG_WR.BASE_32B` (rule R129). -/
  | cfgWrBase32b (secure : Bool) (data : Word)
  /-- `CFG_RD.BASE_64KB` (rule R130). -/
  | cfgRdBase64kb (secure : Bool)
  /-- `CFG_WR.BASE_64KB` (rule R131). -/
  | cfgWrBase64kb (secure : Bool) (data : Word)
  /-- `CFG_RD.BASE_1MB` (rule R132). -/
  | cfgRdBase1mb (secure : Bool)
  /-- `CFG_WR.BASE_1MB` (rule R133). -/
  | cfgWrBase1mb (secure : Bool) (data : Word)
  /-- `CFG_RD.BASE_512MB` (rule R134). -/
  | cfgRdBase512mb (secure : Bool)
  /-- `CFG_WR.BASE_512MB` (rule R135). -/
  | cfgWrBase512mb (secure : Bool) (data : Word)
  /-- `CFG_RD.ECO` (rule R136). -/
  | cfgRdEco (secure : Bool)
  /-- `CFG_WR.ECO` (rule R137). -/
  | cfgWrEco (secure : Bool) (data : Word)
  /-- `CFG_RD.RAM_ADJ` (rule R138). -/
  | cfgRdRamAdj (secure : Bool)
  /-- `CFG_WR.RAM_ADJ` (rule R139). -/
  | cfgWrRamAdj (secure : Bool) (data : Word)
  /-- `CFG_RD.MASTER_ID00` (rule R150). -/
  | cfgRdMasterId00 (secure : Bool)
  /-- `CFG_RD.MASTER_ID01` (rule R151). -/
  | cfgRdMasterId01 (secure : Bool)
  /-- `CFG_RD.MASTER_ID02` (rule R152). -/
  | cfgRdMasterId02 (secure : Bool)
  /-- `CFG_RD.MASTER_ID03` (rule R153). -/
  | cfgRdMasterId03 (secure : Bool)
  /-- `CFG_RD.MASTER_ID04` (rule R154). -/
  | cfgRdMasterId04 (secure : Bool)
  /-- `CFG_RD.MASTER_ID05` (rule R155). -/
  | cfgRdMasterId05 (secure : Bool)
  /-- `CFG_RD.MASTER_ID06` (rule R156). -/
  | cfgRdMasterId06 (secure : Bool)
  /-- `CFG_RD.MASTER_ID07` (rule R157). -/
  | cfgRdMasterId07 (secure : Bool)
  /-- `CFG_RD.MASTER_ID08` (rule R158). -/
  | cfgRdMasterId08 (secure : Bool)
  /-- `CFG_RD.MASTER_ID09` (rule R159). -/
  | cfgRdMasterId09 (secure : Bool)
  /-- `CFG_RD.MASTER_ID10` (rule R160). -/
  | cfgRdMasterId10 (secure : Bool)
  /-- `CFG_RD.MASTER_ID11` (rule R161). -/
  | cfgRdMasterId11 (secure : Bool)
  /-- `CFG_RD.MASTER_ID12` (rule R162). -/
  | cfgRdMasterId12 (secure : Bool)
  /-- `CFG_RD.MASTER_ID13` (rule R163). -/
  | cfgRdMasterId13 (secure : Bool)
  /-- `CFG_RD.MASTER_ID14` (rule R164). -/
  | cfgRdMasterId14 (secure : Bool)
  /-- `CFG_RD.MASTER_ID15` (rule R165). -/
  | cfgRdMasterId15 (secure : Bool)
  /-- `CFG_RD.MASTER_ID16` (rule R166). -/
  | cfgRdMasterId16 (secure : Bool)
  /-- `CFG_RD.MASTER_ID17` (rule R167). -/
  | cfgRdMasterId17 (secure : Bool)
  /-- `CFG_RD.MASTER_ID18` (rule R168). -/
  | cfgRdMasterId18 (secure : Bool)
  /-- `CFG_RD.MASTER_ID19` (rule R169). -/
  | cfgRdMasterId19 (secure : Bool)
  /-- `CFG_WR.MASTER_ID00` (rule R170). -/
  | cfgWrMasterId00 (secure : Bool) (data : Word)
  /-- `CFG_WR.MASTER_ID01` (rule R171). -/
  | cfgWrMasterId01 (secure : Bool) (data : Word)
  /-- `CFG_WR.MASTER_ID02` (rule R172). -/
  | cfgWrMasterId02 (secure : Bool) (data : Word)
  /-- `CFG_WR.MASTER_ID03` (rule R173). -/
  | cfgWrMasterId03 (secure : Bool) (data : Word)
  /-- `CFG_WR.MASTER_ID04` (rule R174). -/
  | cfgWrMasterId04 (secure : Bool) (data : Word)
  /-- `CFG_WR.MASTER_ID05` (rule R175). -/
  | cfgWrMasterId05 (secure : Bool) (data : Word)
  /-- `CFG_WR.MASTER_ID06` (rule R176). -/
  | cfgWrMasterId06 (secure : Bool) (data : Word)
  /-- `CFG_WR.MASTER_ID07` (rule R177). -/
  | cfgWrMasterId07 (secure : Bool) (data : Word)
  /-- `CFG_WR.MASTER_ID08` (rule R178). -/
  | cfgWrMasterId08 (secure : Bool) (data : Word)
  /-- `CFG_WR.MASTER_ID09` (rule R179). -/
  | cfgWrMasterId09 (secure : Bool) (data : Word)
  /-- `CFG_WR.MASTER_ID10` (rule R180). -/
  | cfgWrMasterId10 (secure : Bool) (data : Word)
  /-- `CFG_WR.MASTER_ID11` (rule R181). -/
  | cfgWrMasterId11 (secure : Bool) (data : Word)
  /-- `CFG_WR.MASTER_ID12` (rule R182). -/
  | cfgWrMasterId12 (secure : Bool) (data : Word)
  /-- `CFG_WR.MASTER_ID13` (rule R183). -/
  | cfgWrMasterId13 (secure : Bool) (data : Word)
  /-- `CFG_WR.MASTER_ID14` (rule R184). -/
  | cfgWrMasterId14 (secure : Bool) (data : Word)
  /-- `CFG_WR.MASTER_ID15` (rule R185). -/
  | cfgWrMasterId15 (secure : Bool) (data : Word)
  /-- `CFG_WR.MASTER_ID16` (rule R186). -/
  | cfgWrMasterId16 (secure : Bool) (data : Word)
  /-- `CFG_WR.MASTER_ID17` (rule R187). -/
  | cfgWrMasterId17 (secure : Bool) (data : Word)
  /-- `CFG_WR.MASTER_ID18` (rule R188). -/
  | cfgWrMasterId18 (secure : Bool) (data : Word)
  /-- `CFG_WR.MASTER_ID19` (rule R189). -/
  | cfgWrMasterId19 (secure : Bool) (data : Word)
  /-- `CFG_RD.APL_64KB` (rule R192). -/
  | cfgRdApl64kb (k : BitVec 8) (secure : Bool)
  /-- `CFG_RD.APL_32B` (rule R193). -/
  | cfgRdApl32b (k : BitVec 7) (secure : Bool)
  /-- `CFG_RD.APL_1MB` (rule R194). -/
  | cfgRdApl1mb (k : BitVec 4) (secure : Bool)
  /-- `CFG_RD.APL_512MB` (rule R195). -/
  | cfgRdApl512mb (secure : Bool)
  /-- `CFG_WR.APL_64KB` (rule R196). -/
  | cfgWrApl64kb (k : BitVec 8) (secure : Bool) (data : Word)
  /-- `CFG_WR.APL_32B` (rule R197). -/
  | cfgWrApl32b (k : BitVec 7) (secure : Bool) (data : Word)
  /-- `CFG_WR.APL_1MB` (rule R198). -/
  | cfgWrApl1mb (k : BitVec 4) (secure : Bool) (data : Word)
  /-- `CFG_WR.APL_512MB` (rule R199). -/
  | cfgWrApl512mb (secure : Bool) (data : Word)
  /-- `CFG_RD.HOLE` (rule R141). -/
  | cfgRdHole (off : Word) (secure : Bool)
  /-- `CFG_WR.HOLE` (rule R142). -/
  | cfgWrHole (off : Word) (secure : Bool) (data : Word)
  /-- `CFG_RD.OOR` (rule R143). -/
  | cfgRdOor (off : Word) (secure : Bool)
  /-- `CFG_WR.OOR` (rule R144). -/
  | cfgWrOor (off : Word) (secure : Bool) (data : Word)
  /-- `AP_RD.32B` (rule R220). -/
  | apRd32b (off : Word) (size : Nat) (masterId : Word) (secure : Bool)
  /-- `AP_WR.32B` (rule R221). -/
  | apWr32b (off : Word) (size : Nat) (masterId : Word) (secure : Bool) (data : BitVec 64)
  /-- `AP_RD.64KB` (rule R222). -/
  | apRd64kb (off : Word) (size : Nat) (masterId : Word) (secure : Bool)
  /-- `AP_WR.64KB` (rule R223). -/
  | apWr64kb (off : Word) (size : Nat) (masterId : Word) (secure : Bool) (data : BitVec 64)
  /-- `AP_RD.1MB` (rule R224). -/
  | apRd1mb (off : Word) (size : Nat) (masterId : Word) (secure : Bool)
  /-- `AP_WR.1MB` (rule R225). -/
  | apWr1mb (off : Word) (size : Nat) (masterId : Word) (secure : Bool) (data : BitVec 64)
  /-- `AP_RD.512MB` (rule R226). -/
  | apRd512mb (off : Word) (size : Nat) (masterId : Word) (secure : Bool)
  /-- `AP_WR.512MB` (rule R227). -/
  | apWr512mb (off : Word) (size : Nat) (masterId : Word) (secure : Bool) (data : BitVec 64)
  /-- `RESET` (rule R270). -/
  | reset
deriving DecidableEq, Repr

end Sys2Proof
end

