-- ==== Sys2Proof/Decode.lean ====
section
/-! DEFINITION. The decode table of rule R72 in the order of spec/opcode_table.json, the decoder of rules R54, R62,
R72, R91 and R92, the bit image a delivery has for the host (notes/assumptions/9.md), and the encoder. -/

namespace Sys2Proof

/-- Why the decoder names no operation. Each is the spec's own `refuse(reason)`: "the model has no meaning for the
transaction. It is not a hardware event" (rule R9). -/
inductive DecodeRefusal where
  /-- Rule R54: a configuration-window transaction that is not a word at an aligned offset. -/
  | cfgSizeOrAlignment
  /-- Rule R62: a transaction carrying an atomic or exclusive attribute. -/
  | atomicAttribute
  /-- Rule R91: a key the block does not decode. -/
  | notThisBlock
deriving DecidableEq, Repr

/-- One row of the decode table: the row's name, match, mask, and the operation with its operands. -/
structure OpRow where
  mnemonic : String
  pattern : BitVec 36
  mask : BitVec 36
  op : Transaction → Instr

/-- The 32-bit write payload of a configuration access (rule R56). -/
def Transaction.word (t : Transaction) : Word := t.data.setWidth 32

/-- A row without operands of its own: a configuration read. -/
def rdRow (m : String) (p : BitVec 36) (op : Bool → Instr) : OpRow :=
  ⟨m, p, 0xFFFFFFFFF#36, fun t => op t.secure⟩

/-- A row without operands of its own: a configuration write. -/
def wrRow (m : String) (p : BitVec 36) (op : Bool → Word → Instr) : OpRow :=
  ⟨m, p, 0xFFFFFFFFF#36, fun t => op t.secure t.word⟩

/-- A row of an aperture read: any offset (rule R72). -/
def apRdRow (m : String) (p : BitVec 36) (op : Word → Nat → Word → Bool → Instr) : OpRow :=
  ⟨m, p, 0xF00000000#36, fun t => op t.off t.size t.masterId t.secure⟩

/-- A row of an aperture write. -/
def apWrRow (m : String) (p : BitVec 36) (op : Word → Nat → Word → Bool → BitVec 64 → Instr) : OpRow :=
  ⟨m, p, 0xF00000000#36, fun t => op t.off t.size t.masterId t.secure t.data⟩

/-- The configuration-register rows: one exact offset each (rule R73). -/
def registerRows : List OpRow :=
  [ rdRow "CFG_RD.CTRL" 0x000000000#36 .cfgRdCtrl,
    wrRow "CFG_WR.CTRL" 0x100000000#36 .cfgWrCtrl,
    rdRow "CFG_RD.ERR_STATUS1" 0x000000004#36 .cfgRdErrStatus1,
    wrRow "CFG_WR.ERR_STATUS1" 0x100000004#36 .cfgWrErrStatus1,
    rdRow "CFG_RD.ERR_STATUS2" 0x000000008#36 .cfgRdErrStatus2,
    wrRow "CFG_WR.ERR_STATUS2" 0x100000008#36 .cfgWrErrStatus2,
    rdRow "CFG_RD.POISON" 0x00000000C#36 .cfgRdPoison,
    wrRow "CFG_WR.POISON" 0x10000000C#36 .cfgWrPoison,
    rdRow "CFG_RD.ISR" 0x000000010#36 .cfgRdIsr,
    wrRow "CFG_WR.ISR" 0x100000010#36 .cfgWrIsr,
    rdRow "CFG_RD.IMR" 0x000000014#36 .cfgRdImr,
    wrRow "CFG_WR.IMR" 0x100000014#36 .cfgWrImr,
    rdRow "CFG_RD.IEN" 0x000000018#36 .cfgRdIen,
    wrRow "CFG_WR.IEN" 0x100000018#36 .cfgWrIen,
    rdRow "CFG_RD.IDS" 0x00000001C#36 .cfgRdIds,
    wrRow "CFG_WR.IDS" 0x10000001C#36 .cfgWrIds,
    rdRow "CFG_RD.M_MASTER_IDS" 0x00000003C#36 .cfgRdMMasterIds,
    wrRow "CFG_WR.M_MASTER_IDS" 0x10000003C#36 .cfgWrMMasterIds,
    rdRow "CFG_RD.M_APERTURE_32B" 0x000000040#36 .cfgRdMAperture32b,
    wrRow "CFG_WR.M_APERTURE_32B" 0x100000040#36 .cfgWrMAperture32b,
    rdRow "CFG_RD.M_APERTURE_64KB" 0x000000044#36 .cfgRdMAperture64kb,
    wrRow "CFG_WR.M_APERTURE_64KB" 0x100000044#36 .cfgWrMAperture64kb,
    rdRow "CFG_RD.M_APERTURE_1MB" 0x000000048#36 .cfgRdMAperture1mb,
    wrRow "CFG_WR.M_APERTURE_1MB" 0x100000048#36 .cfgWrMAperture1mb,
    rdRow "CFG_RD.M_APERTURE_512MB" 0x00000004C#36 .cfgRdMAperture512mb,
    wrRow "CFG_WR.M_APERTURE_512MB" 0x10000004C#36 .cfgWrMAperture512mb,
    rdRow "CFG_RD.BASE_32B" 0x000000050#36 .cfgRdBase32b,
    wrRow "CFG_WR.BASE_32B" 0x100000050#36 .cfgWrBase32b,
    rdRow "CFG_RD.BASE_64KB" 0x000000054#36 .cfgRdBase64kb,
    wrRow "CFG_WR.BASE_64KB" 0x100000054#36 .cfgWrBase64kb,
    rdRow "CFG_RD.BASE_1MB" 0x000000058#36 .cfgRdBase1mb,
    wrRow "CFG_WR.BASE_1MB" 0x100000058#36 .cfgWrBase1mb,
    rdRow "CFG_RD.BASE_512MB" 0x00000005C#36 .cfgRdBase512mb,
    wrRow "CFG_WR.BASE_512MB" 0x10000005C#36 .cfgWrBase512mb,
    rdRow "CFG_RD.ECO" 0x0000000FC#36 .cfgRdEco,
    wrRow "CFG_WR.ECO" 0x1000000FC#36 .cfgWrEco,
    rdRow "CFG_RD.RAM_ADJ" 0x0000001FC#36 .cfgRdRamAdj,
    wrRow "CFG_WR.RAM_ADJ" 0x1000001FC#36 .cfgWrRamAdj ]

/-- The Master-ID rows, `key = (000, dir, 0x100 + 4·i)`. -/
def masterIdRows : List OpRow :=
  [ rdRow "CFG_RD.MASTER_ID00" 0x000000100#36 .cfgRdMasterId00,
    rdRow "CFG_RD.MASTER_ID01" 0x000000104#36 .cfgRdMasterId01,
    rdRow "CFG_RD.MASTER_ID02" 0x000000108#36 .cfgRdMasterId02,
    rdRow "CFG_RD.MASTER_ID03" 0x00000010C#36 .cfgRdMasterId03,
    rdRow "CFG_RD.MASTER_ID04" 0x000000110#36 .cfgRdMasterId04,
    rdRow "CFG_RD.MASTER_ID05" 0x000000114#36 .cfgRdMasterId05,
    rdRow "CFG_RD.MASTER_ID06" 0x000000118#36 .cfgRdMasterId06,
    rdRow "CFG_RD.MASTER_ID07" 0x00000011C#36 .cfgRdMasterId07,
    rdRow "CFG_RD.MASTER_ID08" 0x000000120#36 .cfgRdMasterId08,
    rdRow "CFG_RD.MASTER_ID09" 0x000000124#36 .cfgRdMasterId09,
    rdRow "CFG_RD.MASTER_ID10" 0x000000128#36 .cfgRdMasterId10,
    rdRow "CFG_RD.MASTER_ID11" 0x00000012C#36 .cfgRdMasterId11,
    rdRow "CFG_RD.MASTER_ID12" 0x000000130#36 .cfgRdMasterId12,
    rdRow "CFG_RD.MASTER_ID13" 0x000000134#36 .cfgRdMasterId13,
    rdRow "CFG_RD.MASTER_ID14" 0x000000138#36 .cfgRdMasterId14,
    rdRow "CFG_RD.MASTER_ID15" 0x00000013C#36 .cfgRdMasterId15,
    rdRow "CFG_RD.MASTER_ID16" 0x000000140#36 .cfgRdMasterId16,
    rdRow "CFG_RD.MASTER_ID17" 0x000000144#36 .cfgRdMasterId17,
    rdRow "CFG_RD.MASTER_ID18" 0x000000148#36 .cfgRdMasterId18,
    rdRow "CFG_RD.MASTER_ID19" 0x00000014C#36 .cfgRdMasterId19,
    wrRow "CFG_WR.MASTER_ID00" 0x100000100#36 .cfgWrMasterId00,
    wrRow "CFG_WR.MASTER_ID01" 0x100000104#36 .cfgWrMasterId01,
    wrRow "CFG_WR.MASTER_ID02" 0x100000108#36 .cfgWrMasterId02,
    wrRow "CFG_WR.MASTER_ID03" 0x10000010C#36 .cfgWrMasterId03,
    wrRow "CFG_WR.MASTER_ID04" 0x100000110#36 .cfgWrMasterId04,
    wrRow "CFG_WR.MASTER_ID05" 0x100000114#36 .cfgWrMasterId05,
    wrRow "CFG_WR.MASTER_ID06" 0x100000118#36 .cfgWrMasterId06,
    wrRow "CFG_WR.MASTER_ID07" 0x10000011C#36 .cfgWrMasterId07,
    wrRow "CFG_WR.MASTER_ID08" 0x100000120#36 .cfgWrMasterId08,
    wrRow "CFG_WR.MASTER_ID09" 0x100000124#36 .cfgWrMasterId09,
    wrRow "CFG_WR.MASTER_ID10" 0x100000128#36 .cfgWrMasterId10,
    wrRow "CFG_WR.MASTER_ID11" 0x10000012C#36 .cfgWrMasterId11,
    wrRow "CFG_WR.MASTER_ID12" 0x100000130#36 .cfgWrMasterId12,
    wrRow "CFG_WR.MASTER_ID13" 0x100000134#36 .cfgWrMasterId13,
    wrRow "CFG_WR.MASTER_ID14" 0x100000138#36 .cfgWrMasterId14,
    wrRow "CFG_WR.MASTER_ID15" 0x10000013C#36 .cfgWrMasterId15,
    wrRow "CFG_WR.MASTER_ID16" 0x100000140#36 .cfgWrMasterId16,
    wrRow "CFG_WR.MASTER_ID17" 0x100000144#36 .cfgWrMasterId17,
    wrRow "CFG_WR.MASTER_ID18" 0x100000148#36 .cfgWrMasterId18,
    wrRow "CFG_WR.MASTER_ID19" 0x10000014C#36 .cfgWrMasterId19 ]

/-- The permission-RAM rows: the low offset bits give the entry index (rule R86). -/
def permissionRamRows : List OpRow :=
  [ ⟨"CFG_RD.APL_64KB", 0x000001000#36, 0xFFFFFFC03#36, fun t => .cfgRdApl64kb (t.off.extractLsb' 2 8) t.secure⟩,
    ⟨"CFG_RD.APL_32B", 0x000001400#36, 0xFFFFFFE03#36, fun t => .cfgRdApl32b (t.off.extractLsb' 2 7) t.secure⟩,
    ⟨"CFG_RD.APL_1MB", 0x000001600#36, 0xFFFFFFFC3#36, fun t => .cfgRdApl1mb (t.off.extractLsb' 2 4) t.secure⟩,
    ⟨"CFG_RD.APL_512MB", 0x000001640#36, 0xFFFFFFFFF#36, fun t => .cfgRdApl512mb t.secure⟩,
    ⟨"CFG_WR.APL_64KB", 0x100001000#36, 0xFFFFFFC03#36, fun t => .cfgWrApl64kb (t.off.extractLsb' 2 8) t.secure t.word⟩,
    ⟨"CFG_WR.APL_32B", 0x100001400#36, 0xFFFFFFE03#36, fun t => .cfgWrApl32b (t.off.extractLsb' 2 7) t.secure t.word⟩,
    ⟨"CFG_WR.APL_1MB", 0x100001600#36, 0xFFFFFFFC3#36, fun t => .cfgWrApl1mb (t.off.extractLsb' 2 4) t.secure t.word⟩,
    ⟨"CFG_WR.APL_512MB", 0x100001640#36, 0xFFFFFFFFF#36, fun t => .cfgWrApl512mb t.secure t.word⟩ ]

/-- The hole rows (rule R87), then the out-of-range rows (rule R88). -/
def decodeErrorRows : List OpRow :=
  [ ⟨"CFG_RD.HOLE", 0x000000000#36, 0xFFFFFFE03#36, fun t => .cfgRdHole t.off t.secure⟩,
    ⟨"CFG_WR.HOLE", 0x100000000#36, 0xFFFFFFE03#36, fun t => .cfgWrHole t.off t.secure t.word⟩,
    ⟨"CFG_RD.OOR", 0x000000000#36, 0xFFFFF0003#36, fun t => .cfgRdOor t.off t.secure⟩,
    ⟨"CFG_WR.OOR", 0x100000000#36, 0xFFFFF0003#36, fun t => .cfgWrOor t.off t.secure t.word⟩ ]

/-- The aperture rows: a window code and a direction, with any offset. -/
def apertureRows : List OpRow :=
  [ apRdRow "AP_RD.32B" 0x200000000#36 .apRd32b,
    apWrRow "AP_WR.32B" 0x300000000#36 .apWr32b,
    apRdRow "AP_RD.64KB" 0x400000000#36 .apRd64kb,
    apWrRow "AP_WR.64KB" 0x500000000#36 .apWr64kb,
    apRdRow "AP_RD.1MB" 0x600000000#36 .apRd1mb,
    apWrRow "AP_WR.1MB" 0x700000000#36 .apWr1mb,
    apRdRow "AP_RD.512MB" 0x800000000#36 .apRd512mb,
    apWrRow "AP_WR.512MB" 0x900000000#36 .apWr512mb ]

/-- The decode table, in decode priority order (rule R72). The row `RESET` has no key and stands in no list. -/
def opcodeTable : List OpRow :=
  registerRows ++ (masterIdRows ++ (permissionRamRows ++ (decodeErrorRows ++ apertureRows)))

/-- "Decoding takes, in the order of `opcode_table.json`, the first row whose `(key & mask) == match`"
(rule R72). -/
def lookup (key : BitVec 36) : Option OpRow :=
  opcodeTable.find? fun r => key &&& r.mask == r.pattern

/-- The out-of-range operation of a configuration transaction (rule R88). -/
def Transaction.outOfRange (t : Transaction) : Instr :=
  if t.write then .cfgWrOor t.off t.secure t.word else .cfgRdOor t.off t.secure

/-- Decode one transaction delivered to an instance with configuration `c`. The atomic attribute is looked at first (rule R62; notes/assumptions/10.md), then
size and alignment of a configuration access (rule R54), then the end of the instance's configuration window
(rule R91), then the table (rule R92). The table is written for `CFG_WINDOW_SIZE` = 0x10000: in a wider window what
follows it is out of range like the offsets before it (rules R51, R88; notes/assumptions/27.md). An aperture access is
admitted by rule R55 where it is executed, since the window sizes belong to it. -/
def decodeTransaction (c : Config) (t : Transaction) : Except DecodeRefusal Instr :=
  if t.atomic then .error .atomicAttribute
  else if t.win == 0#3 && !(t.size == 4 && t.off.extractLsb' 0 2 == 0#2) then .error .cfgSizeOrAlignment
  else if t.win == 0#3 && !c.decodes t.off.toNat then .error .notThisBlock
  else
    match lookup t.key with
    | some r => .ok (r.op t)
    | none => if t.win == 0#3 then .ok t.outOfRange else .error .notThisBlock

/-- Decode one delivery to an instance; the reset signal is no key (rule R72). -/
def decode (c : Config) : Delivery → Except DecodeRefusal Instr
  | .transaction t => decodeTransaction c t
  | .reset => .ok .reset

/-! ### The bit image of a delivery

DESIGN CHOICE (notes/assumptions/9.md): the spec gives the 36-bit key and lists the other attributes as operands; the
image puts the operands above the key, least significant first, so that all-zero operands are a secure, non-atomic
4-byte access of master 0 with payload 0. -/

/-- The number of bits of a transaction's image. -/
def imageBits : Nat := 142

/-- The size field of an image: `size` XOR 4, so that 0 stands for the configuration window's one size. -/
def sizeOfField (f : BitVec 8) : Nat := (f ^^^ 4#8).toNat

/-- The transaction whose image is `w`: off 31:0, dir 32, win 35:33, non-secure 36, atomic 37, size field 45:38,
master id 77:46, payload 141:78. -/
def Transaction.ofImage (w : BitVec 142) : Transaction where
  off := w.extractLsb' 0 32
  write := w.getLsbD 32
  win := w.extractLsb' 33 3
  secure := !w.getLsbD 36
  atomic := w.getLsbD 37
  size := sizeOfField (w.extractLsb' 38 8)
  masterId := w.extractLsb' 46 32
  data := w.extractLsb' 78 64

/-- The image of a transaction whose size is below 256. -/
def Transaction.toImage (t : Transaction) : BitVec 142 :=
  t.data ++ (t.masterId ++ ((BitVec.ofNat 8 t.size ^^^ 4#8) ++
    (BitVec.ofBool t.atomic ++ (BitVec.ofBool (!t.secure) ++ t.key))))

/-- The delivery that a row's `nbits` bits `w` stand for; every image bit above `nbits` is 0. The one row to which
the table gives no bits is `RESET`. -/
def Delivery.ofTableWord (nbits w : Nat) : Delivery :=
  if nbits = 0 then .reset
  else .transaction (Transaction.ofImage (BitVec.ofNat imageBits (w % 2 ^ nbits)))

/-- The instruction the decoder of the default instance reads from a row's bits. -/
def decodeTableWord (nbits w : Nat) : Option Instr :=
  match decode Config.default (Delivery.ofTableWord nbits w) with
  | .ok i => some i
  | .error _ => none

/-! ### The encoder -/

/-- A configuration-window word access at `off`. -/
def cfgDelivery (write : Bool) (off : Word) (secure : Bool) (data : Word) : Delivery :=
  .transaction
    { win := 0#3, write := write, off := off, size := 4, atomic := false, masterId := 0#32,
      secure := secure, data := data.setWidth 64 }

/-- An access through the aperture window with code `win`. -/
def apDelivery (win : BitVec 3) (write : Bool) (off : Word) (size : Nat) (masterId : Word) (secure : Bool)
    (data : BitVec 64) : Delivery :=
  .transaction
    { win := win, write := write, off := off, size := size, atomic := false, masterId := masterId,
      secure := secure, data := data }

/-- A delivery that decodes to the instruction, for a well-formed instruction. Attributes the operation does not
read (the master id of a configuration access, the payload of a read) are 0. -/
def encode : Instr → Delivery
  | .cfgRdCtrl secure => cfgDelivery false 0x000#32 secure 0#32
  | .cfgWrCtrl secure data => cfgDelivery true 0x000#32 secure data
  | .cfgRdErrStatus1 secure => cfgDelivery false 0x004#32 secure 0#32
  | .cfgWrErrStatus1 secure data => cfgDelivery true 0x004#32 secure data
  | .cfgRdErrStatus2 secure => cfgDelivery false 0x008#32 secure 0#32
  | .cfgWrErrStatus2 secure data => cfgDelivery true 0x008#32 secure data
  | .cfgRdPoison secure => cfgDelivery false 0x00C#32 secure 0#32
  | .cfgWrPoison secure data => cfgDelivery true 0x00C#32 secure data
  | .cfgRdIsr secure => cfgDelivery false 0x010#32 secure 0#32
  | .cfgWrIsr secure data => cfgDelivery true 0x010#32 secure data
  | .cfgRdImr secure => cfgDelivery false 0x014#32 secure 0#32
  | .cfgWrImr secure data => cfgDelivery true 0x014#32 secure data
  | .cfgRdIen secure => cfgDelivery false 0x018#32 secure 0#32
  | .cfgWrIen secure data => cfgDelivery true 0x018#32 secure data
  | .cfgRdIds secure => cfgDelivery false 0x01C#32 secure 0#32
  | .cfgWrIds secure data => cfgDelivery true 0x01C#32 secure data
  | .cfgRdMMasterIds secure => cfgDelivery false 0x03C#32 secure 0#32
  | .cfgWrMMasterIds secure data => cfgDelivery true 0x03C#32 secure data
  | .cfgRdMAperture32b secure => cfgDelivery false 0x040#32 secure 0#32
  | .cfgWrMAperture32b secure data => cfgDelivery true 0x040#32 secure data
  | .cfgRdMAperture64kb secure => cfgDelivery false 0x044#32 secure 0#32
  | .cfgWrMAperture64kb secure data => cfgDelivery true 0x044#32 secure data
  | .cfgRdMAperture1mb secure => cfgDelivery false 0x048#32 secure 0#32
  | .cfgWrMAperture1mb secure data => cfgDelivery true 0x048#32 secure data
  | .cfgRdMAperture512mb secure => cfgDelivery false 0x04C#32 secure 0#32
  | .cfgWrMAperture512mb secure data => cfgDelivery true 0x04C#32 secure data
  | .cfgRdBase32b secure => cfgDelivery false 0x050#32 secure 0#32
  | .cfgWrBase32b secure data => cfgDelivery true 0x050#32 secure data
  | .cfgRdBase64kb secure => cfgDelivery false 0x054#32 secure 0#32
  | .cfgWrBase64kb secure data => cfgDelivery true 0x054#32 secure data
  | .cfgRdBase1mb secure => cfgDelivery false 0x058#32 secure 0#32
  | .cfgWrBase1mb secure data => cfgDelivery true 0x058#32 secure data
  | .cfgRdBase512mb secure => cfgDelivery false 0x05C#32 secure 0#32
  | .cfgWrBase512mb secure data => cfgDelivery true 0x05C#32 secure data
  | .cfgRdEco secure => cfgDelivery false 0x0FC#32 secure 0#32
  | .cfgWrEco secure data => cfgDelivery true 0x0FC#32 secure data
  | .cfgRdRamAdj secure => cfgDelivery false 0x1FC#32 secure 0#32
  | .cfgWrRamAdj secure data => cfgDelivery true 0x1FC#32 secure data
  | .cfgRdMasterId00 secure => cfgDelivery false 0x100#32 secure 0#32
  | .cfgRdMasterId01 secure => cfgDelivery false 0x104#32 secure 0#32
  | .cfgRdMasterId02 secure => cfgDelivery false 0x108#32 secure 0#32
  | .cfgRdMasterId03 secure => cfgDelivery false 0x10C#32 secure 0#32
  | .cfgRdMasterId04 secure => cfgDelivery false 0x110#32 secure 0#32
  | .cfgRdMasterId05 secure => cfgDelivery false 0x114#32 secure 0#32
  | .cfgRdMasterId06 secure => cfgDelivery false 0x118#32 secure 0#32
  | .cfgRdMasterId07 secure => cfgDelivery false 0x11C#32 secure 0#32
  | .cfgRdMasterId08 secure => cfgDelivery false 0x120#32 secure 0#32
  | .cfgRdMasterId09 secure => cfgDelivery false 0x124#32 secure 0#32
  | .cfgRdMasterId10 secure => cfgDelivery false 0x128#32 secure 0#32
  | .cfgRdMasterId11 secure => cfgDelivery false 0x12C#32 secure 0#32
  | .cfgRdMasterId12 secure => cfgDelivery false 0x130#32 secure 0#32
  | .cfgRdMasterId13 secure => cfgDelivery false 0x134#32 secure 0#32
  | .cfgRdMasterId14 secure => cfgDelivery false 0x138#32 secure 0#32
  | .cfgRdMasterId15 secure => cfgDelivery false 0x13C#32 secure 0#32
  | .cfgRdMasterId16 secure => cfgDelivery false 0x140#32 secure 0#32
  | .cfgRdMasterId17 secure => cfgDelivery false 0x144#32 secure 0#32
  | .cfgRdMasterId18 secure => cfgDelivery false 0x148#32 secure 0#32
  | .cfgRdMasterId19 secure => cfgDelivery false 0x14C#32 secure 0#32
  | .cfgWrMasterId00 secure data => cfgDelivery true 0x100#32 secure data
  | .cfgWrMasterId01 secure data => cfgDelivery true 0x104#32 secure data
  | .cfgWrMasterId02 secure data => cfgDelivery true 0x108#32 secure data
  | .cfgWrMasterId03 secure data => cfgDelivery true 0x10C#32 secure data
  | .cfgWrMasterId04 secure data => cfgDelivery true 0x110#32 secure data
  | .cfgWrMasterId05 secure data => cfgDelivery true 0x114#32 secure data
  | .cfgWrMasterId06 secure data => cfgDelivery true 0x118#32 secure data
  | .cfgWrMasterId07 secure data => cfgDelivery true 0x11C#32 secure data
  | .cfgWrMasterId08 secure data => cfgDelivery true 0x120#32 secure data
  | .cfgWrMasterId09 secure data => cfgDelivery true 0x124#32 secure data
  | .cfgWrMasterId10 secure data => cfgDelivery true 0x128#32 secure data
  | .cfgWrMasterId11 secure data => cfgDelivery true 0x12C#32 secure data
  | .cfgWrMasterId12 secure data => cfgDelivery true 0x130#32 secure data
  | .cfgWrMasterId13 secure data => cfgDelivery true 0x134#32 secure data
  | .cfgWrMasterId14 secure data => cfgDelivery true 0x138#32 secure data
  | .cfgWrMasterId15 secure data => cfgDelivery true 0x13C#32 secure data
  | .cfgWrMasterId16 secure data => cfgDelivery true 0x140#32 secure data
  | .cfgWrMasterId17 secure data => cfgDelivery true 0x144#32 secure data
  | .cfgWrMasterId18 secure data => cfgDelivery true 0x148#32 secure data
  | .cfgWrMasterId19 secure data => cfgDelivery true 0x14C#32 secure data
  | .cfgRdApl64kb k secure => cfgDelivery false (0x1000#32 + (k.setWidth 32 <<< 2)) secure 0#32
  | .cfgRdApl32b k secure => cfgDelivery false (0x1400#32 + (k.setWidth 32 <<< 2)) secure 0#32
  | .cfgRdApl1mb k secure => cfgDelivery false (0x1600#32 + (k.setWidth 32 <<< 2)) secure 0#32
  | .cfgRdApl512mb secure => cfgDelivery false 0x1640#32 secure 0#32
  | .cfgWrApl64kb k secure data => cfgDelivery true (0x1000#32 + (k.setWidth 32 <<< 2)) secure data
  | .cfgWrApl32b k secure data => cfgDelivery true (0x1400#32 + (k.setWidth 32 <<< 2)) secure data
  | .cfgWrApl1mb k secure data => cfgDelivery true (0x1600#32 + (k.setWidth 32 <<< 2)) secure data
  | .cfgWrApl512mb secure data => cfgDelivery true 0x1640#32 secure data
  | .cfgRdHole off secure => cfgDelivery false off secure 0#32
  | .cfgWrHole off secure data => cfgDelivery true off secure data
  | .cfgRdOor off secure => cfgDelivery false off secure 0#32
  | .cfgWrOor off secure data => cfgDelivery true off secure data
  | .apRd32b off size masterId secure => apDelivery 1#3 false off size masterId secure 0#64
  | .apWr32b off size masterId secure data => apDelivery 1#3 true off size masterId secure data
  | .apRd64kb off size masterId secure => apDelivery 2#3 false off size masterId secure 0#64
  | .apWr64kb off size masterId secure data => apDelivery 2#3 true off size masterId secure data
  | .apRd1mb off size masterId secure => apDelivery 3#3 false off size masterId secure 0#64
  | .apWr1mb off size masterId secure data => apDelivery 3#3 true off size masterId secure data
  | .apRd512mb off size masterId secure => apDelivery 4#3 false off size masterId secure 0#64
  | .apWr512mb off size masterId secure data => apDelivery 4#3 true off size masterId secure data
  | .reset => .reset

/-- The image of the delivery of an instruction that is a transaction; `RESET` has no image and gives 0. -/
def encodeImage (i : Instr) : BitVec 142 :=
  match encode i with
  | .transaction t => t.toImage
  | .reset => 0#142

end Sys2Proof
end

