-- ==== Sys2Proof/Machine/State.lean ====
section
/-! DEFINITION. The state vector of rule R13, the model's own fields beside it, the reasons a step can stop, and the
state right after reset (rule R270). Plain data. -/

namespace Sys2Proof.Machine

open Sys2Proof

/-- Faults of the model. The block itself never faults (rule R281). -/
inductive Fault where
  /-- Raised by an aperture access whose index selects no permission-RAM word (rule R28). Safe: an
  instance whose `APERTURES` table keeps rule R85's bound (`Config.wf`) never reaches it
  (notes/assumptions/13.md). -/
  | noSuchRamWord
deriving DecidableEq, Repr

/-- Refusals: the spec's own `refuse(reason)` (rule R9), each safe, since nothing is claimed of such a delivery. -/
inductive Refusal where
  /-- No meaning yet. No arm of `exec` answers with it. Safe. -/
  | notModelled (mnemonic : String)
  /-- Raised by `step`: a configuration access that is not an aligned word (rule R54). Safe. -/
  | cfgSizeOrAlignment
  /-- Raised by the aperture operations: rule R55 does not admit the access. Safe. -/
  | apertureRange
  /-- Raised by `step`: an atomic or exclusive transaction (rule R62). Safe. -/
  | atomicAttribute
  /-- Raised by `step`: a key the block does not decode (rule R91). Safe. -/
  | notThisBlock
deriving DecidableEq, Repr

/-- The permission RAM by byte offset of the configuration window, in one canonical form (`Memory.wf`); a byte that is
not listed is 0, the reset value of every word (rules R28, R271). -/
abbrev Memory := List Host.Cell

/-- `Memory.wf` from address `lo` on. -/
def Memory.wfFrom : Nat → Memory → Bool
  | _, [] => true
  | lo, (a, v) :: rest => decide (lo ≤ a) && v != 0#8 && Memory.wfFrom (a + 1) rest

/-- Addresses strictly rising, and no entry equal to what an unlisted address reads as. -/
def Memory.wf (m : Memory) : Bool := Memory.wfFrom 0 m

/-- Every listed byte lies in a permission RAM of `n` words: from offset 0x1000 to 0x1643 when `n` is 401
(rule R51). -/
def Memory.inWindow (n : Nat) (m : Memory) : Bool :=
  m.all fun c => decide (ramWindowBase ≤ c.1) && decide (c.1 < ramWindowBase + 4 * n)

/-- `WIN_EN[a]` of rule R30. -/
structure WinEn where
  ap32b : Bool
  ap64kb : Bool
  ap1mb : Bool
  ap512mb : Bool
deriving DecidableEq, Repr

/-- The direction of an access, with the payload of a write. -/
inductive Access where
  | read
  | write (data : BitVec 64)
deriving DecidableEq, Repr

/-- One access the firewall made to the downstream address space (rule R53): address, size, direction with
payload, and the forwarded attributes (rule R211; for a poisoned access the model's choice, notes/assumptions/28.md). -/
structure DownAccess where
  addr : Word
  size : Nat
  access : Access
  masterId : Word
  secure : Bool
deriving DecidableEq, Repr

/-- What the firewall answered to the last delivery. -/
inductive Answer where
  /-- Nothing delivered yet, or the last delivery was the reset signal. -/
  | none
  /-- `respond(data, resp)` to a read. -/
  | read (data : BitVec 64) (resp : BusResp)
  /-- `respond(-, resp)` to a write. -/
  | write (resp : BusResp)
  /-- The outcome `NotDecoded` of a disabled window (rule R201). -/
  | notDecoded
deriving DecidableEq, Repr

/-- The state. The first eleven fields are the tuple of rule R13; the last five are the model's own
(notes/assumptions/6.md to 8.md). -/
structure State where
  /-- CTRL, its three stored bits (rules R14, R74). -/
  ctrl : BitVec 3
  /-- ERR_STATUS1.AXI_ADDR (rule R15). -/
  errStatus1 : BitVec 20
  /-- ERR_STATUS2.AXI_ID (rule R16). -/
  errStatus2 : BitVec 10
  /-- POISON.BASE (rule R17). -/
  poison : BitVec 20
  /-- ISR (rule R18), at the bit positions of rule R77. -/
  isr : BitVec 8
  /-- IMR (rule R19), at the same positions. -/
  imr : BitVec 8
  /-- ECO (rule R24). -/
  eco : Word
  /-- RAM_ADJ (rule R27). -/
  ramAdj : Word
  /-- MASTER_ID00 to MASTER_ID19 (rule R25). -/
  mid : Vector Word 20
  /-- The permission RAM (rule R28). -/
  ram : Memory
  /-- The window enables (rule R30). -/
  winEn : WinEn
  /-- The configuration of the instance (rule R37); no step changes it. -/
  cfg : Config
  /-- What the host delivers next, first in front (rules R12, R59). -/
  inbox : List Delivery
  /-- The answer to the last delivery. -/
  answer : Answer
  /-- The downstream accesses made so far, oldest first. -/
  downstream : List DownAccess
  /-- How many free values have been drawn. -/
  draws : Nat
deriving DecidableEq, Repr

/-- The stored bits of ISR and IMR: `ISR_BITS` = 0xEF (rule R77). -/
def isrBits : BitVec 8 := 0xEF#8

/-- The stored bits of a Master-ID register (rule R81). -/
def midStoredBits : Word := 0xC3FF03FF#32

/-- The Master-ID reset values of rule R25, from `MID_RESET[0..3]`. -/
def midReset (c : Config) : Vector Word 20 :=
  #v[c.midReset[0] &&& midStoredBits, c.midReset[1] &&& midStoredBits, c.midReset[2] &&& midStoredBits,
    c.midReset[3] &&& midStoredBits, 0#32, 0#32, 0#32, 0#32, 0#32, 0#32, 0#32, 0#32, 0#32, 0#32, 0#32, 0#32,
    0#32, 0#32, 0#32, 0#32]

/-- The state of an instance with configuration `c` right after reset (rules R270 to R272), `RAM_ADJ` holding the
draw numbered `draw` (rule R27), with nothing delivered, answered or forwarded. -/
def State.afterReset (c : Config) (draw : Nat) : State where
  ctrl := 0#3
  errStatus1 := 0#20
  errStatus2 := 0#10
  poison := c.poisonReset
  isr := 0#8
  imr := c.imrReset &&& isrBits
  eco := 0#32
  ramAdj := Config.ramAdjReset draw
  mid := midReset c
  ram := []
  winEn := ⟨false, false, false, false⟩
  cfg := c
  inbox := []
  answer := .none
  downstream := []
  draws := draw + 1

/-- The default instance right after its first reset. -/
def State.reset : State := State.afterReset Config.default 0

end Sys2Proof.Machine
end

