-- ==== Sys2Proof/Machine/Flags.lean ====
section
/-! DEFINITION. The ISR bits (rules R77, R241), the interrupt line (rule R31), the fields of CTRL (rule R74), and
the two parity checks (rules R82, R84). -/

namespace Sys2Proof.Machine

/-- The seven fault causes (rules R18, R241). -/
inductive Cause where
  | invApb
  | midMiss
  | midRo
  | midParity
  | aperPerm
  | aperTz
  | aperParity
deriving DecidableEq, Repr

/-- "A fault's code is its ISR bit number" (rule R241). -/
def Cause.code : Cause → Nat
  | .invApb => 0
  | .midMiss => 1
  | .midRo => 2
  | .midParity => 3
  | .aperPerm => 5
  | .aperTz => 6
  | .aperParity => 7

/-- The ISR word with this cause's bit alone. -/
def Cause.bit (b : Cause) : BitVec 8 := 1#8 <<< b.code

/-- `ISR_SET(b)` of rule R9. -/
def State.setIsr (b : Cause) (s : State) : State := { s with isr := s.isr ||| b.bit }

/-- The interrupt line, `(ISR & ~IMR & 0xEF) != 0` (rules R31, R244). -/
def State.irq (s : State) : Bool := s.isr &&& ~~~s.imr &&& isrBits != 0#8

/-- `CTRL.ENABLE`. -/
def ctrlEnable (c : BitVec 3) : Bool := c.getLsbD 0

/-- `CTRL.MID_PARITY_EN`. -/
def ctrlMidParityEn (c : BitVec 3) : Bool := c.getLsbD 1

/-- `CTRL.APER_PARITY_EN`. -/
def ctrlAperParityEn (c : BitVec 3) : Bool := c.getLsbD 2

/-- The XOR of the low `n` bits of `v`. -/
def parityBelow {w : Nat} (v : BitVec w) : Nat → Bool
  | 0 => false
  | n + 1 => v.getLsbD n ^^ parityBelow v n

/-- `parity(v)`: "1 when `v` has an odd number of one bits" (rule R8). -/
def parity {w : Nat} (v : BitVec w) : Bool := parityBelow v w

/-- `mid_parity_ok(v)` of rule R82. -/
def midParityOk (v : Word) : Bool := parity (v &&& 0x43FF03FF#32) == v.getLsbD 31

/-- `apl_parity_ok(e)` of rule R84. -/
def aplParityOk (e : Word) : Bool :=
  let p0 := parity (e.extractLsb' 0 5)
  let p1 := parity (e.extractLsb' 5 5)
  let p2 := parity (e.extractLsb' 10 5)
  let p3 := parity (e.extractLsb' 27 1 ++ e.extractLsb' 15 5)
  e.getLsbD 28 == p0 && e.getLsbD 29 == p1 && e.getLsbD 30 == p2 && e.getLsbD 31 == p3

/-- `isr_free` of rule R202, from ISR as it stands before the check. -/
def State.isrFree (s : State) : Bool := s.isr &&& s.cfg.latchBlockMask == 0#8

end Sys2Proof.Machine
end

