-- ==== Sys2Proof/WellFormed.lean ====
section
/-! DEFINITION. The terms of `Instr` that stand for an admitted transaction: the offsets of rules R87 and R88 and
the admission of rule R55. -/

namespace Sys2Proof

/-- The register-block holes of rule R87. -/
def isHoleOffset (off : Word) : Bool :=
  let n := off.toNat
  n % 4 == 0 &&
    ((0x020 ≤ n && n ≤ 0x038) || (0x060 ≤ n && n ≤ 0x0F8) || (0x150 ≤ n && n ≤ 0x1F8))

/-- The offsets of the out-of-range rows (rule R88): those that follow neither a register row nor a permission-RAM row
of the table. Their upper end is that of the configuration window. -/
def isOutOfRangeOffset (off : Word) : Bool :=
  let n := off.toNat
  n % 4 == 0 && ((0x200 ≤ n && n ≤ 0xFFC) || 0x1644 ≤ n)

/-- "An aperture-window transaction on aperture a is admitted only when all three hold" (rule R55). -/
def apertureFits (d : ApertureDesc) (off : Word) (size : Nat) : Bool :=
  (size == 1 || size == 2 || size == 4 || size == 8) &&
    (off.toNat + size ≤ d.windowSize && d.base.toNat + off.toNat + size ≤ 2 ^ 32)

/-- The instruction stands for a transaction the block admits, in an instance with configuration `c`: a configuration
access inside the window (rule R51), an aperture access by rule R55. -/
def Instr.wf (c : Config) : Instr → Bool
  | .cfgRdCtrl _ => c.decodes 0x000
  | .cfgWrCtrl _ _ => c.decodes 0x000
  | .cfgRdErrStatus1 _ => c.decodes 0x004
  | .cfgWrErrStatus1 _ _ => c.decodes 0x004
  | .cfgRdErrStatus2 _ => c.decodes 0x008
  | .cfgWrErrStatus2 _ _ => c.decodes 0x008
  | .cfgRdPoison _ => c.decodes 0x00C
  | .cfgWrPoison _ _ => c.decodes 0x00C
  | .cfgRdIsr _ => c.decodes 0x010
  | .cfgWrIsr _ _ => c.decodes 0x010
  | .cfgRdImr _ => c.decodes 0x014
  | .cfgWrImr _ _ => c.decodes 0x014
  | .cfgRdIen _ => c.decodes 0x018
  | .cfgWrIen _ _ => c.decodes 0x018
  | .cfgRdIds _ => c.decodes 0x01C
  | .cfgWrIds _ _ => c.decodes 0x01C
  | .cfgRdMMasterIds _ => c.decodes 0x03C
  | .cfgWrMMasterIds _ _ => c.decodes 0x03C
  | .cfgRdMAperture32b _ => c.decodes 0x040
  | .cfgWrMAperture32b _ _ => c.decodes 0x040
  | .cfgRdMAperture64kb _ => c.decodes 0x044
  | .cfgWrMAperture64kb _ _ => c.decodes 0x044
  | .cfgRdMAperture1mb _ => c.decodes 0x048
  | .cfgWrMAperture1mb _ _ => c.decodes 0x048
  | .cfgRdMAperture512mb _ => c.decodes 0x04C
  | .cfgWrMAperture512mb _ _ => c.decodes 0x04C
  | .cfgRdBase32b _ => c.decodes 0x050
  | .cfgWrBase32b _ _ => c.decodes 0x050
  | .cfgRdBase64kb _ => c.decodes 0x054
  | .cfgWrBase64kb _ _ => c.decodes 0x054
  | .cfgRdBase1mb _ => c.decodes 0x058
  | .cfgWrBase1mb _ _ => c.decodes 0x058
  | .cfgRdBase512mb _ => c.decodes 0x05C
  | .cfgWrBase512mb _ _ => c.decodes 0x05C
  | .cfgRdEco _ => c.decodes 0x0FC
  | .cfgWrEco _ _ => c.decodes 0x0FC
  | .cfgRdRamAdj _ => c.decodes 0x1FC
  | .cfgWrRamAdj _ _ => c.decodes 0x1FC
  | .cfgRdMasterId00 _ => c.decodes 0x100
  | .cfgRdMasterId01 _ => c.decodes 0x104
  | .cfgRdMasterId02 _ => c.decodes 0x108
  | .cfgRdMasterId03 _ => c.decodes 0x10C
  | .cfgRdMasterId04 _ => c.decodes 0x110
  | .cfgRdMasterId05 _ => c.decodes 0x114
  | .cfgRdMasterId06 _ => c.decodes 0x118
  | .cfgRdMasterId07 _ => c.decodes 0x11C
  | .cfgRdMasterId08 _ => c.decodes 0x120
  | .cfgRdMasterId09 _ => c.decodes 0x124
  | .cfgRdMasterId10 _ => c.decodes 0x128
  | .cfgRdMasterId11 _ => c.decodes 0x12C
  | .cfgRdMasterId12 _ => c.decodes 0x130
  | .cfgRdMasterId13 _ => c.decodes 0x134
  | .cfgRdMasterId14 _ => c.decodes 0x138
  | .cfgRdMasterId15 _ => c.decodes 0x13C
  | .cfgRdMasterId16 _ => c.decodes 0x140
  | .cfgRdMasterId17 _ => c.decodes 0x144
  | .cfgRdMasterId18 _ => c.decodes 0x148
  | .cfgRdMasterId19 _ => c.decodes 0x14C
  | .cfgWrMasterId00 _ _ => c.decodes 0x100
  | .cfgWrMasterId01 _ _ => c.decodes 0x104
  | .cfgWrMasterId02 _ _ => c.decodes 0x108
  | .cfgWrMasterId03 _ _ => c.decodes 0x10C
  | .cfgWrMasterId04 _ _ => c.decodes 0x110
  | .cfgWrMasterId05 _ _ => c.decodes 0x114
  | .cfgWrMasterId06 _ _ => c.decodes 0x118
  | .cfgWrMasterId07 _ _ => c.decodes 0x11C
  | .cfgWrMasterId08 _ _ => c.decodes 0x120
  | .cfgWrMasterId09 _ _ => c.decodes 0x124
  | .cfgWrMasterId10 _ _ => c.decodes 0x128
  | .cfgWrMasterId11 _ _ => c.decodes 0x12C
  | .cfgWrMasterId12 _ _ => c.decodes 0x130
  | .cfgWrMasterId13 _ _ => c.decodes 0x134
  | .cfgWrMasterId14 _ _ => c.decodes 0x138
  | .cfgWrMasterId15 _ _ => c.decodes 0x13C
  | .cfgWrMasterId16 _ _ => c.decodes 0x140
  | .cfgWrMasterId17 _ _ => c.decodes 0x144
  | .cfgWrMasterId18 _ _ => c.decodes 0x148
  | .cfgWrMasterId19 _ _ => c.decodes 0x14C
  | .cfgRdApl64kb k _ => c.decodes (0x1000 + 4 * k.toNat)
  | .cfgRdApl32b k _ => c.decodes (0x1400 + 4 * k.toNat)
  | .cfgRdApl1mb k _ => c.decodes (0x1600 + 4 * k.toNat)
  | .cfgRdApl512mb _ => c.decodes 0x1640
  | .cfgWrApl64kb k _ _ => c.decodes (0x1000 + 4 * k.toNat)
  | .cfgWrApl32b k _ _ => c.decodes (0x1400 + 4 * k.toNat)
  | .cfgWrApl1mb k _ _ => c.decodes (0x1600 + 4 * k.toNat)
  | .cfgWrApl512mb _ _ => c.decodes 0x1640
  | .cfgRdHole off _ => c.decodes off.toNat && isHoleOffset off
  | .cfgWrHole off _ _ => c.decodes off.toNat && isHoleOffset off
  | .cfgRdOor off _ => c.decodes off.toNat && isOutOfRangeOffset off
  | .cfgWrOor off _ _ => c.decodes off.toNat && isOutOfRangeOffset off
  | .apRd32b off size _ _ => apertureFits c.ap32b off size
  | .apWr32b off size _ _ _ => apertureFits c.ap32b off size
  | .apRd64kb off size _ _ => apertureFits c.ap64kb off size
  | .apWr64kb off size _ _ _ => apertureFits c.ap64kb off size
  | .apRd1mb off size _ _ => apertureFits c.ap1mb off size
  | .apWr1mb off size _ _ _ => apertureFits c.ap1mb off size
  | .apRd512mb off size _ _ => apertureFits c.ap512mb off size
  | .apWr512mb off size _ _ _ => apertureFits c.ap512mb off size
  | .reset => true

end Sys2Proof
end

