-- ==== Sys2Proof/Machine/Operands.lean ====
section
/-! DEFINITION. Operand forms: the fields of Master-ID registers and APL entries (rules R81, R83), the addresses
and the index of an aperture access (rules R85, R93, R200), and register values as 32-bit words. -/

namespace Sys2Proof.Machine

open Sys2Proof

/-- The `MID` field of a Master-ID register (rule R81). -/
def midField (v : Word) : BitVec 10 := v.extractLsb' 0 10

/-- The `MIDM` field. -/
def midmField (v : Word) : BitVec 10 := v.extractLsb' 16 10

/-- The `MIDR` flag. -/
def midrFlag (v : Word) : Bool := v.getLsbD 30

/-- The `TZ` bit of an APL entry (rule R83): 1 means "non-secure access allowed" (rule R208). -/
def tzBit (e : Word) : Bool := e.getLsbD 27

/-- `id <- master_id[9:0]` (rule R216). -/
def requesterId (masterId : Word) : BitVec 10 := masterId.extractLsb' 0 10

/-- `WIN_EN[a]`. -/
def WinEn.get (w : WinEn) : Aperture → Bool
  | .ap32b => w.ap32b
  | .ap64kb => w.ap64kb
  | .ap1mb => w.ap1mb
  | .ap512mb => w.ap512mb

/-- Every window at the same enable (rules R30, R103). -/
def WinEn.all (b : Bool) : WinEn := ⟨b, b, b, b⟩

/-- Whether the host's access is admitted to the aperture (rule R55). -/
def apertureAdmitted (d : ApertureDesc) (off : Word) (size : Nat) : Bool := apertureFits d off size

/-- `addr <- APERTURES[a].base + off` (rule R200). -/
def absoluteAddress (d : ApertureDesc) (off : Word) : Word := d.base + off

/-- The permission-RAM index of rule R85, from the address of the first byte (rule R217). -/
def aplIndex (d : ApertureDesc) (addr : Word) : Nat := d.ramBase + ((addr >>> d.shift) &&& d.mask).toNat

/-- `poison_addr = (POISON.BASE, addr[11:0])` (rule R93). -/
def poisonAddress (base : BitVec 20) (addr : Word) : Word := base ++ addr.extractLsb' 0 12

/-- `ERR_STATUS1.AXI_ADDR <- addr[31:12]` (rule R94). -/
def errorAddress (addr : Word) : BitVec 20 := addr.extractLsb' 12 20

/-- The low `8 * size` bits of a value: the bytes of an access of `size` bytes. -/
def lowBytes (size : Nat) (v : BitVec 64) : BitVec 64 := (v.setWidth (8 * size)).setWidth 64

/-- Whether an access is a write. -/
def Access.isWrite : Access → Bool
  | .read => false
  | .write _ => true

end Sys2Proof.Machine
end

