-- ==== Sys2Proof/Machine/Ops.lean ====
section
/-! DEFINITION. The shared operations: the permission RAM (rules R28, R86, R190, R191), the configuration-access steps
(rule R100), re-validation (rule R101), the permission check (rule R203), the first-fault latch (rules R202, R212) with
its acknowledgement (rule R249), forwarding (rules R211 to R215), the aperture access (rule R200) and reset
(rule R270). -/

namespace Sys2Proof.Machine

open Sys2Proof

/-- What a meaning answers. -/
abbrev Result := Host.Outcome State Fault Refusal

/-! ### The permission RAM -/

/-- The byte at an address; an unlisted byte is 0 (rule R28). -/
def readByte : Memory → Nat → Byte
  | [], _ => 0#8
  | (b, v) :: rest, a => if b = a then v else readByte rest a

/-- Store a byte, keeping the canonical form: storing 0 removes the entry. -/
def writeByte : Memory → Nat → Byte → Memory
  | [], a, v => if v = 0#8 then [] else [(a, v)]
  | (b, w) :: rest, a, v =>
    if a < b then (if v = 0#8 then (b, w) :: rest else (a, v) :: (b, w) :: rest)
    else if a = b then (if v = 0#8 then rest else (a, v) :: rest)
    else (b, w) :: writeByte rest a v

/-- The word at an address, "byte 0 at the lowest address is bits 7:0" (rule R56). -/
def readWord (m : Memory) (a : Nat) : Word :=
  readByte m (a + 3) ++ (readByte m (a + 2) ++ (readByte m (a + 1) ++ readByte m a))

/-- Store a word at an address, in the same byte order. -/
def writeWord (m : Memory) (a : Nat) (v : Word) : Memory :=
  writeByte (writeByte (writeByte (writeByte m a (v.extractLsb' 0 8)) (a + 1) (v.extractLsb' 8 8)) (a + 2)
    (v.extractLsb' 16 8)) (a + 3) (v.extractLsb' 24 8)

/-- The offset of `RAM[k]` in the configuration window: 0x1000 + 4·k (rules R51, R86). -/
def ramAddress (k : Nat) : Nat := ramWindowBase + 4 * k

/-- `RAM[k]`; there is no word from `NR_APL` on (rule R28). -/
def State.ramWord (s : State) (k : Nat) : Option Word :=
  if k < s.cfg.nrApl then some (readWord s.ram (ramAddress k)) else none

/-- `RAM[k] <- v`, for an entry that exists. -/
def State.setRamWord (k : Nat) (v : Word) (s : State) : State :=
  { s with ram := writeWord s.ram (ramAddress k) v }

/-! ### Answers and configuration accesses -/

/-- `respond(data, OK)` to a configuration read. -/
def State.respondRead (data : Word) (s : State) : State := { s with answer := .read (data.setWidth 64) .ok }

/-- `respond(-, OK)` to a configuration write. -/
def State.respondWrite (s : State) : State := { s with answer := .write .ok }

/-- A read of a defined register: a non-secure read returns 0 (rule R100). -/
def cfgRead (secure : Bool) (value : Word) (s : State) : Result :=
  .next (s.respondRead (if secure then value else 0#32))

/-- A write of a defined register: a non-secure write is dropped (rule R100). -/
def cfgWrite (secure : Bool) (store : State → State) (s : State) : Result :=
  .next (if secure then store s else s).respondWrite

/-- A write to a read-only register: "no state change" (rule R105 and its like). -/
def cfgWriteIgnored (s : State) : Result := .next s.respondWrite

/-- A read of a register-block hole, secure or not (rules R100, R141). -/
def holeRead (s : State) : Result := .next ((s.setIsr .invApb).respondRead 0#32)

/-- A write of a register-block hole, secure or not (rules R100, R142). -/
def holeWrite (s : State) : Result := .next (s.setIsr .invApb).respondWrite

/-- A read of an out-of-range offset, secure or not (rules R100, R143). -/
def outOfRangeRead (s : State) : Result := .next (s.respondRead 0#32)

/-- A write of an out-of-range offset, secure or not (rules R100, R144). -/
def outOfRangeWrite (s : State) : Result := .next s.respondWrite

/-- `ram_read(k)` of rule R190, behind rule R100; past the RAM array of the instance the offset is out of range
(rule R88). -/
def cfgRamRead (k : Nat) (secure : Bool) (s : State) : Result :=
  match s.ramWord k with
  | some v => cfgRead secure v s
  | none => outOfRangeRead s

/-- `ram_write(k, data)` of rule R191, behind rule R100; past the RAM array of the instance the offset is out of range
(rule R88). -/
def cfgRamWrite (k : Nat) (secure : Bool) (data : Word) (s : State) : Result :=
  match s.ramWord k with
  | some _ => cfgWrite secure (State.setRamWord k data) s
  | none => outOfRangeWrite s

/-- A read at an offset of the out-of-range rows. In an instance with more words than the 401 the table is written for,
some of these offsets name a word, 0x1000 + 4·k (rules R28, R51; notes/assumptions/27.md). -/
def unlistedRead (off : Word) (secure : Bool) (s : State) : Result :=
  if ramWindowBase ≤ off.toNat then cfgRamRead ((off.toNat - ramWindowBase) / 4) secure s else outOfRangeRead s

/-- A write at an offset of the out-of-range rows. -/
def unlistedWrite (off : Word) (secure : Bool) (data : Word) (s : State) : Result :=
  if ramWindowBase ≤ off.toNat then cfgRamWrite ((off.toNat - ramWindowBase) / 4) secure data s else outOfRangeWrite s

/-! ### Master-ID registers and CTRL -/

/-- `revalidate_mid(i)` of rule R101. -/
def State.revalidateMid (i : Fin 20) (s : State) : State :=
  if ctrlMidParityEn s.ctrl && s.cfg.revalidateSetsIsr && !midParityOk s.mid[i] then s.setIsr .midParity else s

/-- `for i in 0..19: revalidate_mid(i)` (rule R103). -/
def State.revalidateAll (s : State) : State :=
  (List.finRange 20).foldl (fun t i => t.revalidateMid i) s

/-- The effect of a CTRL write: store, apply the window enables, re-validate under the new enable
(rule R103). -/
def State.writeCtrl (data : Word) (s : State) : State :=
  State.revalidateAll { s with ctrl := data.extractLsb' 0 3, winEn := WinEn.all (data.getLsbD 0) }

/-- `MID[i] <- data & 0xC3FF03FF` (rule R140). -/
def State.setMid (i : Fin 20) (data : Word) (s : State) : State :=
  { s with mid := s.mid.set i (data &&& midStoredBits) }

/-- `mid_read(i)` of rule R140, behind rule R100. -/
def midRead (i : Fin 20) (secure : Bool) (s : State) : Result := cfgRead secure s.mid[i] s

/-- `mid_write(i, data)` of rule R140, behind rule R100. -/
def midWrite (i : Fin 20) (secure : Bool) (data : Word) (s : State) : Result :=
  cfgWrite secure (fun t => (t.setMid i data).revalidateMid i) s

/-! ### The permission check -/

/-- What the check finds at one slot (rule R203's loop body). -/
inductive SlotVerdict where
  /-- `e[i] == 0`. -/
  | notEnabled
  /-- Rule R205. -/
  | badParity
  /-- Rule R206. -/
  | noMatch
  /-- Rule R207. -/
  | readOnly
  /-- Rule R208. -/
  | trustZone
  /-- Rule R209. -/
  | authorizes
deriving DecidableEq, Repr

/-- One turn of the loop of rule R203, its tests in the order the rule gives them. -/
def State.slotVerdict (s : State) (e : Word) (id : BitVec 10) (w secure : Bool) (i : Fin 20) : SlotVerdict :=
  let v := s.mid[i]
  if !e.getLsbD i then .notEnabled
  else if ctrlMidParityEn s.ctrl && !midParityOk v then .badParity
  else if midField v &&& midmField v != id &&& midmField v then .noMatch
  else if midrFlag v && w then .readOnly
  else if !secure && !tzBit e then .trustZone
  else .authorizes

/-- The ISR bit a slot sets, if any (rules R205, R207, R208). -/
def SlotVerdict.isr : SlotVerdict → BitVec 8
  | .badParity => Cause.midParity.bit
  | .readOnly => Cause.midRo.bit
  | .trustZone => Cause.aperTz.bit
  | .notEnabled | .noMatch | .authorizes => 0#8

/-- Whether the slot set `mid_match` (rule R203). -/
def SlotVerdict.matched : SlotVerdict → Bool
  | .readOnly | .trustZone | .authorizes => true
  | .notEnabled | .badParity | .noMatch => false

/-- The answer of the check: whether it authorizes, and ISR after it. -/
structure CheckResult where
  ok : Bool
  isr : BitVec 8
deriving DecidableEq, Repr

/-- The loop of rule R203 over the slots still to examine, with `mid_match` and ISR so far; the first slot that
authorizes ends it (rule R209), and an exhausted loop without a match sets `MID_MISS` (rule R210). -/
def scanSlots (verdict : Fin 20 → SlotVerdict) : List (Fin 20) → (midMatch : Bool) → (isr : BitVec 8) → CheckResult
  | [], midMatch, isr => ⟨false, if midMatch then isr else isr ||| Cause.midMiss.bit⟩
  | i :: rest, midMatch, isr =>
    match verdict i with
    | .authorizes => ⟨true, isr⟩
    | r => scanSlots verdict rest (midMatch || r.matched) (isr ||| r.isr)

/-- `check_permission(e, id, w, secure)` of rule R203. -/
def State.checkPermission (s : State) (e : Word) (id : BitVec 10) (w secure : Bool) : CheckResult :=
  if ctrlAperParityEn s.ctrl && !aplParityOk e then ⟨false, s.isr ||| Cause.aperParity.bit⟩
  else scanSlots (s.slotVerdict e id w secure) (List.finRange 20) false s.isr

/-! ### Recording a fault, and its acknowledgement -/

/-- The first-fault latch: the block's analogue of taking an exception (rules R212, R248). -/
def State.latchFault (addr : Word) (id : BitVec 10) (s : State) : State :=
  { s.setIsr .aperPerm with errStatus1 := errorAddress addr, errStatus2 := id }

/-- The acknowledgement by a write of 1s to ISR: the analogue of the return (rules R111, R249). -/
def State.acknowledge (data : Word) (s : State) : State :=
  { s with isr := s.isr &&& ~~~(data.setWidth 8 &&& isrBits) }

/-! ### Forwarding -/

/-- One downstream access at `target` with the transaction's size, direction, payload and attributes, and the
downstream's answer to the requester (rules R211, R214, R215). Rule R214 names the size, direction and data of a rejected
transaction as unchanged, and not its attributes: that the master id and the secure attribute of a poisoned access are the
requester's, as rule R211 says of an authorized one, is the model's choice (DESIGN CHOICE, unsafe;
notes/assumptions/28.md). -/
def State.forward (target : Word) (size : Nat) (access : Access) (masterId : Word) (secure : Bool)
    (s : State) : State :=
  { s with
    downstream := s.downstream ++ [⟨target, size, access, masterId, secure⟩]
    draws := s.draws + 1
    answer :=
      match access with
      | .read =>
        .read (lowBytes size (Config.downReadData s.draws target size)) (Config.downReadResp s.draws target size)
      | .write data => .write (Config.downWriteResp s.draws target size data) }

/-- `aperture_access` of rule R200 once the entry is fetched: check, latch, and forward or poison. The
master id and the secure attribute of a poisoned access are the model's choice (notes/assumptions/28.md). -/
def State.checkedAccess (e : Word) (addr : Word) (size : Nat) (access : Access) (masterId : Word)
    (secure : Bool) (s : State) : State :=
  let id := requesterId masterId
  let c := s.checkPermission e id access.isWrite secure
  let checked := { s with isr := c.isr }
  if c.ok then checked.forward addr size access masterId secure
  else
    let latched := if s.isrFree then checked.latchFault addr id else checked
    latched.forward (poisonAddress s.poison addr) size access masterId secure

/-- `aperture_access(a, off, size, dir, master_id, secure, data)` of rule R200, behind the admission of
rule R55. -/
def apertureAccess (a : Aperture) (off : Word) (size : Nat) (access : Access) (masterId : Word) (secure : Bool)
    (s : State) : Result :=
  let d := s.cfg.aperture a
  if !apertureAdmitted d off size then .refused .apertureRange
  else if !s.winEn.get a then .next { s with answer := .notDecoded }
  else
    let addr := absoluteAddress d off
    match s.ramWord (aplIndex d addr) with
    | some e => .next (s.checkedAccess e addr size access masterId secure)
    | none => .fault .noSuchRamWord

/-! ### Reset and delivery -/

/-- `reset()` of rule R270. The instance's configuration, what the host has still to deliver, and the record of the
downstream accesses are no state of the block and stay (notes/assumptions/20.md). -/
def State.resetBlock (s : State) : State :=
  { State.afterReset s.cfg s.draws with inbox := s.inbox, downstream := s.downstream }

/-- The next delivery and the state with it taken out of the inbox; none when the host delivers nothing. -/
def State.nextDelivery (s : State) : Option (Delivery × State) :=
  match s.inbox with
  | [] => none
  | d :: rest => some (d, { s with inbox := rest })

/-- A decoder's refusal as a refusal of the machine. -/
def refusalOf : DecodeRefusal → Refusal
  | .cfgSizeOrAlignment => .cfgSizeOrAlignment
  | .atomicAttribute => .atomicAttribute
  | .notThisBlock => .notThisBlock

/-- Place a delivery before everything the host has still to deliver. -/
def State.deliver (d : Delivery) (s : State) : State := { s with inbox := d :: s.inbox }

end Sys2Proof.Machine
end

