-- ==== Sys2Proof/Machine/Apertures.lean ====
section
/-! DEFINITION. The eight aperture operations (rules R220 to R227), each rule R200 at one aperture and direction. -/

namespace Sys2Proof.Machine

open Sys2Proof

/-- `AP_RD.32B` (rule R220): read through the 32B aperture. -/
def execApRd32b (off : Word) (size : Nat) (masterId : Word) (secure : Bool) (s : State) : Result :=
  apertureAccess .ap32b off size .read masterId secure s

/-- `AP_WR.32B` (rule R221): write through the 32B aperture. -/
def execApWr32b (off : Word) (size : Nat) (masterId : Word) (secure : Bool) (data : BitVec 64) (s : State) : Result :=
  apertureAccess .ap32b off size (.write data) masterId secure s

/-- `AP_RD.64KB` (rule R222): read through the 64KB aperture. -/
def execApRd64kb (off : Word) (size : Nat) (masterId : Word) (secure : Bool) (s : State) : Result :=
  apertureAccess .ap64kb off size .read masterId secure s

/-- `AP_WR.64KB` (rule R223): write through the 64KB aperture. -/
def execApWr64kb (off : Word) (size : Nat) (masterId : Word) (secure : Bool) (data : BitVec 64) (s : State) : Result :=
  apertureAccess .ap64kb off size (.write data) masterId secure s

/-- `AP_RD.1MB` (rule R224): read through the 1MB aperture. -/
def execApRd1mb (off : Word) (size : Nat) (masterId : Word) (secure : Bool) (s : State) : Result :=
  apertureAccess .ap1mb off size .read masterId secure s

/-- `AP_WR.1MB` (rule R225): write through the 1MB aperture. -/
def execApWr1mb (off : Word) (size : Nat) (masterId : Word) (secure : Bool) (data : BitVec 64) (s : State) : Result :=
  apertureAccess .ap1mb off size (.write data) masterId secure s

/-- `AP_RD.512MB` (rule R226): read through the 512MB aperture. -/
def execApRd512mb (off : Word) (size : Nat) (masterId : Word) (secure : Bool) (s : State) : Result :=
  apertureAccess .ap512mb off size .read masterId secure s

/-- `AP_WR.512MB` (rule R227): write through the 512MB aperture. -/
def execApWr512mb (off : Word) (size : Nat) (masterId : Word) (secure : Bool) (data : BitVec 64) (s : State) : Result :=
  apertureAccess .ap512mb off size (.write data) masterId secure s

end Sys2Proof.Machine
end

