-- ==== Sys2Proof/Machine/Capability.lean ====
section
/-! DEFINITION. The capability and base registers, read-only constants of the instance (rules R118 to R135). -/

namespace Sys2Proof.Machine

open Sys2Proof

/-- `CFG_RD.M_MASTER_IDS` (rule R118): the Master-ID count. -/
def execCfgRdMMasterIds (secure : Bool) (s : State) : Result := cfgRead secure (BitVec.ofNat 32 nrMid) s

/-- `CFG_WR.M_MASTER_IDS` (rule R119): read-only, the write is ignored. -/
def execCfgWrMMasterIds (_secure : Bool) (_data : Word) (s : State) : Result := cfgWriteIgnored s

/-- `CFG_RD.M_APERTURE_32B` (rule R120): the entry count of the 32B aperture. -/
def execCfgRdMAperture32b (secure : Bool) (s : State) : Result :=
  cfgRead secure (BitVec.ofNat 32 s.cfg.ap32b.entries) s

/-- `CFG_WR.M_APERTURE_32B` (rule R121): read-only, the write is ignored. -/
def execCfgWrMAperture32b (_secure : Bool) (_data : Word) (s : State) : Result := cfgWriteIgnored s

/-- `CFG_RD.M_APERTURE_64KB` (rule R122): the entry count of the 64KB aperture. -/
def execCfgRdMAperture64kb (secure : Bool) (s : State) : Result :=
  cfgRead secure (BitVec.ofNat 32 s.cfg.ap64kb.entries) s

/-- `CFG_WR.M_APERTURE_64KB` (rule R123): read-only, the write is ignored. -/
def execCfgWrMAperture64kb (_secure : Bool) (_data : Word) (s : State) : Result := cfgWriteIgnored s

/-- `CFG_RD.M_APERTURE_1MB` (rule R124): the entry count of the 1MB aperture. -/
def execCfgRdMAperture1mb (secure : Bool) (s : State) : Result :=
  cfgRead secure (BitVec.ofNat 32 s.cfg.ap1mb.entries) s

/-- `CFG_WR.M_APERTURE_1MB` (rule R125): read-only, the write is ignored. -/
def execCfgWrMAperture1mb (_secure : Bool) (_data : Word) (s : State) : Result := cfgWriteIgnored s

/-- `CFG_RD.M_APERTURE_512MB` (rule R126): the entry count of the 512MB aperture. -/
def execCfgRdMAperture512mb (secure : Bool) (s : State) : Result :=
  cfgRead secure (BitVec.ofNat 32 s.cfg.ap512mb.entries) s

/-- `CFG_WR.M_APERTURE_512MB` (rule R127): read-only, the write is ignored. -/
def execCfgWrMAperture512mb (_secure : Bool) (_data : Word) (s : State) : Result := cfgWriteIgnored s

/-- `CFG_RD.BASE_32B` (rule R128): the base of the 32B aperture. -/
def execCfgRdBase32b (secure : Bool) (s : State) : Result := cfgRead secure s.cfg.ap32b.base s

/-- `CFG_WR.BASE_32B` (rule R129): read-only, the write is ignored. -/
def execCfgWrBase32b (_secure : Bool) (_data : Word) (s : State) : Result := cfgWriteIgnored s

/-- `CFG_RD.BASE_64KB` (rule R130): the base of the 64KB aperture. -/
def execCfgRdBase64kb (secure : Bool) (s : State) : Result := cfgRead secure s.cfg.ap64kb.base s

/-- `CFG_WR.BASE_64KB` (rule R131): read-only, the write is ignored. -/
def execCfgWrBase64kb (_secure : Bool) (_data : Word) (s : State) : Result := cfgWriteIgnored s

/-- `CFG_RD.BASE_1MB` (rule R132): the base of the 1MB aperture. -/
def execCfgRdBase1mb (secure : Bool) (s : State) : Result := cfgRead secure s.cfg.ap1mb.base s

/-- `CFG_WR.BASE_1MB` (rule R133): read-only, the write is ignored. -/
def execCfgWrBase1mb (_secure : Bool) (_data : Word) (s : State) : Result := cfgWriteIgnored s

/-- `CFG_RD.BASE_512MB` (rule R134): the base of the 512MB aperture. -/
def execCfgRdBase512mb (secure : Bool) (s : State) : Result := cfgRead secure s.cfg.ap512mb.base s

/-- `CFG_WR.BASE_512MB` (rule R135): read-only, the write is ignored. -/
def execCfgWrBase512mb (_secure : Bool) (_data : Word) (s : State) : Result := cfgWriteIgnored s

end Sys2Proof.Machine
end

