-- ==== Sys2Proof/Machine/ConfigRegs.lean ====
section
/-! DEFINITION. CTRL, ERR_STATUS1/2, POISON, the interrupt registers, ECO and RAM_ADJ (rules R102 to R117, R136 to R139). -/

namespace Sys2Proof.Machine

open Sys2Proof

/-- `CFG_RD.CTRL` (rule R102): bits 31:3 read 0. -/
def execCfgRdCtrl (secure : Bool) (s : State) : Result := cfgRead secure (s.ctrl.setWidth 32) s

/-- `CFG_WR.CTRL` (rule R103): store CTRL, apply the window enables, re-validate every Master-ID register. -/
def execCfgWrCtrl (secure : Bool) (data : Word) (s : State) : Result :=
  cfgWrite secure (fun t => t.writeCtrl data) s

/-- `CFG_RD.ERR_STATUS1` (rule R104): the captured fault address; not cleared by the read. -/
def execCfgRdErrStatus1 (secure : Bool) (s : State) : Result := cfgRead secure (s.errStatus1.setWidth 32) s

/-- `CFG_WR.ERR_STATUS1` (rule R105): read-only, the write is ignored. -/
def execCfgWrErrStatus1 (_secure : Bool) (_data : Word) (s : State) : Result := cfgWriteIgnored s

/-- `CFG_RD.ERR_STATUS2` (rule R106): the captured master id; not cleared by the read. -/
def execCfgRdErrStatus2 (secure : Bool) (s : State) : Result := cfgRead secure (s.errStatus2.setWidth 32) s

/-- `CFG_WR.ERR_STATUS2` (rule R107): read-only, the write is ignored. -/
def execCfgWrErrStatus2 (_secure : Bool) (_data : Word) (s : State) : Result := cfgWriteIgnored s

/-- `CFG_RD.POISON` (rule R108): the poison base. -/
def execCfgRdPoison (secure : Bool) (s : State) : Result := cfgRead secure (s.poison.setWidth 32) s

/-- `CFG_WR.POISON` (rule R109): bits 31:20 of data are ignored. -/
def execCfgWrPoison (secure : Bool) (data : Word) (s : State) : Result :=
  cfgWrite secure (fun t => if t.cfg.poisonWritable then { t with poison := data.setWidth 20 } else t) s

/-- `CFG_RD.ISR` (rule R110): the interrupt status; the read clears nothing. -/
def execCfgRdIsr (secure : Bool) (s : State) : Result := cfgRead secure ((s.isr &&& isrBits).setWidth 32) s

/-- `CFG_WR.ISR` (rule R111): write 1 to clear. -/
def execCfgWrIsr (secure : Bool) (data : Word) (s : State) : Result :=
  cfgWrite secure (fun t => t.acknowledge data) s

/-- `CFG_RD.IMR` (rule R112): the interrupt mask. -/
def execCfgRdImr (secure : Bool) (s : State) : Result := cfgRead secure ((s.imr &&& isrBits).setWidth 32) s

/-- `CFG_WR.IMR` (rule R113): read-only, the write is ignored. -/
def execCfgWrImr (_secure : Bool) (_data : Word) (s : State) : Result := cfgWriteIgnored s

/-- `CFG_RD.IEN` (rule R114): the write-only enable strobe reads 0. -/
def execCfgRdIen (secure : Bool) (s : State) : Result := cfgRead secure 0#32 s

/-- `CFG_WR.IEN` (rule R115): unmask the sources written with 1. -/
def execCfgWrIen (secure : Bool) (data : Word) (s : State) : Result :=
  cfgWrite secure (fun t => { t with imr := t.imr &&& ~~~(data.setWidth 8 &&& isrBits) }) s

/-- `CFG_RD.IDS` (rule R116): the write-only disable strobe reads 0. -/
def execCfgRdIds (secure : Bool) (s : State) : Result := cfgRead secure 0#32 s

/-- `CFG_WR.IDS` (rule R117): mask the sources written with 1. -/
def execCfgWrIds (secure : Bool) (data : Word) (s : State) : Result :=
  cfgWrite secure (fun t => { t with imr := t.imr ||| (data.setWidth 8 &&& isrBits) }) s

/-- `CFG_RD.ECO` (rule R136): plain storage. -/
def execCfgRdEco (secure : Bool) (s : State) : Result := cfgRead secure s.eco s

/-- `CFG_WR.ECO` (rule R137): all 32 bits are stored. -/
def execCfgWrEco (secure : Bool) (data : Word) (s : State) : Result :=
  cfgWrite secure (fun t => { t with eco := data }) s

/-- `CFG_RD.RAM_ADJ` (rule R138): plain storage. -/
def execCfgRdRamAdj (secure : Bool) (s : State) : Result := cfgRead secure s.ramAdj s

/-- `CFG_WR.RAM_ADJ` (rule R139): all 32 bits are stored. -/
def execCfgWrRamAdj (secure : Bool) (data : Word) (s : State) : Result :=
  cfgWrite secure (fun t => { t with ramAdj := data }) s

end Sys2Proof.Machine
end

