-- ==== Sys2Proof/Machine/DecodeErrors.lean ====
section
/-! DEFINITION. Holes and out-of-range offsets (rules R141 to R144). -/

namespace Sys2Proof.Machine

open Sys2Proof

/-- `CFG_RD.HOLE` (rule R141): sets INV_APB, whatever `secure` is. -/
def execCfgRdHole (_off : Word) (_secure : Bool) (s : State) : Result := holeRead s

/-- `CFG_WR.HOLE` (rule R142): sets INV_APB and discards the data, whatever `secure` is. -/
def execCfgWrHole (_off : Word) (_secure : Bool) (_data : Word) (s : State) : Result := holeWrite s

/-- `CFG_RD.OOR` (rule R143): reads 0 and changes no state, past the instance's registers and RAM array. -/
def execCfgRdOor (off : Word) (secure : Bool) (s : State) : Result := unlistedRead off secure s

/-- `CFG_WR.OOR` (rule R144): the data is discarded, past the instance's registers and RAM array. -/
def execCfgWrOor (off : Word) (secure : Bool) (data : Word) (s : State) : Result := unlistedWrite off secure data s

end Sys2Proof.Machine
end

