-- ==== Sys2Proof/Machine/MasterIds.lean ====
section
/-! DEFINITION. The Master-ID registers (rules R150 to R189), each rule R140 at one index. -/

namespace Sys2Proof.Machine

open Sys2Proof

/-- `CFG_RD.MASTER_ID00` (rule R150): read Master-ID register 0. -/
def execCfgRdMasterId00 (secure : Bool) (s : State) : Result := midRead 0 secure s

/-- `CFG_RD.MASTER_ID01` (rule R151): read Master-ID register 1. -/
def execCfgRdMasterId01 (secure : Bool) (s : State) : Result := midRead 1 secure s

/-- `CFG_RD.MASTER_ID02` (rule R152): read Master-ID register 2. -/
def execCfgRdMasterId02 (secure : Bool) (s : State) : Result := midRead 2 secure s

/-- `CFG_RD.MASTER_ID03` (rule R153): read Master-ID register 3. -/
def execCfgRdMasterId03 (secure : Bool) (s : State) : Result := midRead 3 secure s

/-- `CFG_RD.MASTER_ID04` (rule R154): read Master-ID register 4. -/
def execCfgRdMasterId04 (secure : Bool) (s : State) : Result := midRead 4 secure s

/-- `CFG_RD.MASTER_ID05` (rule R155): read Master-ID register 5. -/
def execCfgRdMasterId05 (secure : Bool) (s : State) : Result := midRead 5 secure s

/-- `CFG_RD.MASTER_ID06` (rule R156): read Master-ID register 6. -/
def execCfgRdMasterId06 (secure : Bool) (s : State) : Result := midRead 6 secure s

/-- `CFG_RD.MASTER_ID07` (rule R157): read Master-ID register 7. -/
def execCfgRdMasterId07 (secure : Bool) (s : State) : Result := midRead 7 secure s

/-- `CFG_RD.MASTER_ID08` (rule R158): read Master-ID register 8. -/
def execCfgRdMasterId08 (secure : Bool) (s : State) : Result := midRead 8 secure s

/-- `CFG_RD.MASTER_ID09` (rule R159): read Master-ID register 9. -/
def execCfgRdMasterId09 (secure : Bool) (s : State) : Result := midRead 9 secure s

/-- `CFG_RD.MASTER_ID10` (rule R160): read Master-ID register 10. -/
def execCfgRdMasterId10 (secure : Bool) (s : State) : Result := midRead 10 secure s

/-- `CFG_RD.MASTER_ID11` (rule R161): read Master-ID register 11. -/
def execCfgRdMasterId11 (secure : Bool) (s : State) : Result := midRead 11 secure s

/-- `CFG_RD.MASTER_ID12` (rule R162): read Master-ID register 12. -/
def execCfgRdMasterId12 (secure : Bool) (s : State) : Result := midRead 12 secure s

/-- `CFG_RD.MASTER_ID13` (rule R163): read Master-ID register 13. -/
def execCfgRdMasterId13 (secure : Bool) (s : State) : Result := midRead 13 secure s

/-- `CFG_RD.MASTER_ID14` (rule R164): read Master-ID register 14. -/
def execCfgRdMasterId14 (secure : Bool) (s : State) : Result := midRead 14 secure s

/-- `CFG_RD.MASTER_ID15` (rule R165): read Master-ID register 15. -/
def execCfgRdMasterId15 (secure : Bool) (s : State) : Result := midRead 15 secure s

/-- `CFG_RD.MASTER_ID16` (rule R166): read Master-ID register 16. -/
def execCfgRdMasterId16 (secure : Bool) (s : State) : Result := midRead 16 secure s

/-- `CFG_RD.MASTER_ID17` (rule R167): read Master-ID register 17. -/
def execCfgRdMasterId17 (secure : Bool) (s : State) : Result := midRead 17 secure s

/-- `CFG_RD.MASTER_ID18` (rule R168): read Master-ID register 18. -/
def execCfgRdMasterId18 (secure : Bool) (s : State) : Result := midRead 18 secure s

/-- `CFG_RD.MASTER_ID19` (rule R169): read Master-ID register 19. -/
def execCfgRdMasterId19 (secure : Bool) (s : State) : Result := midRead 19 secure s

/-- `CFG_WR.MASTER_ID00` (rule R170): write Master-ID register 0 and re-validate it. -/
def execCfgWrMasterId00 (secure : Bool) (data : Word) (s : State) : Result := midWrite 0 secure data s

/-- `CFG_WR.MASTER_ID01` (rule R171): write Master-ID register 1 and re-validate it. -/
def execCfgWrMasterId01 (secure : Bool) (data : Word) (s : State) : Result := midWrite 1 secure data s

/-- `CFG_WR.MASTER_ID02` (rule R172): write Master-ID register 2 and re-validate it. -/
def execCfgWrMasterId02 (secure : Bool) (data : Word) (s : State) : Result := midWrite 2 secure data s

/-- `CFG_WR.MASTER_ID03` (rule R173): write Master-ID register 3 and re-validate it. -/
def execCfgWrMasterId03 (secure : Bool) (data : Word) (s : State) : Result := midWrite 3 secure data s

/-- `CFG_WR.MASTER_ID04` (rule R174): write Master-ID register 4 and re-validate it. -/
def execCfgWrMasterId04 (secure : Bool) (data : Word) (s : State) : Result := midWrite 4 secure data s

/-- `CFG_WR.MASTER_ID05` (rule R175): write Master-ID register 5 and re-validate it. -/
def execCfgWrMasterId05 (secure : Bool) (data : Word) (s : State) : Result := midWrite 5 secure data s

/-- `CFG_WR.MASTER_ID06` (rule R176): write Master-ID register 6 and re-validate it. -/
def execCfgWrMasterId06 (secure : Bool) (data : Word) (s : State) : Result := midWrite 6 secure data s

/-- `CFG_WR.MASTER_ID07` (rule R177): write Master-ID register 7 and re-validate it. -/
def execCfgWrMasterId07 (secure : Bool) (data : Word) (s : State) : Result := midWrite 7 secure data s

/-- `CFG_WR.MASTER_ID08` (rule R178): write Master-ID register 8 and re-validate it. -/
def execCfgWrMasterId08 (secure : Bool) (data : Word) (s : State) : Result := midWrite 8 secure data s

/-- `CFG_WR.MASTER_ID09` (rule R179): write Master-ID register 9 and re-validate it. -/
def execCfgWrMasterId09 (secure : Bool) (data : Word) (s : State) : Result := midWrite 9 secure data s

/-- `CFG_WR.MASTER_ID10` (rule R180): write Master-ID register 10 and re-validate it. -/
def execCfgWrMasterId10 (secure : Bool) (data : Word) (s : State) : Result := midWrite 10 secure data s

/-- `CFG_WR.MASTER_ID11` (rule R181): write Master-ID register 11 and re-validate it. -/
def execCfgWrMasterId11 (secure : Bool) (data : Word) (s : State) : Result := midWrite 11 secure data s

/-- `CFG_WR.MASTER_ID12` (rule R182): write Master-ID register 12 and re-validate it. -/
def execCfgWrMasterId12 (secure : Bool) (data : Word) (s : State) : Result := midWrite 12 secure data s

/-- `CFG_WR.MASTER_ID13` (rule R183): write Master-ID register 13 and re-validate it. -/
def execCfgWrMasterId13 (secure : Bool) (data : Word) (s : State) : Result := midWrite 13 secure data s

/-- `CFG_WR.MASTER_ID14` (rule R184): write Master-ID register 14 and re-validate it. -/
def execCfgWrMasterId14 (secure : Bool) (data : Word) (s : State) : Result := midWrite 14 secure data s

/-- `CFG_WR.MASTER_ID15` (rule R185): write Master-ID register 15 and re-validate it. -/
def execCfgWrMasterId15 (secure : Bool) (data : Word) (s : State) : Result := midWrite 15 secure data s

/-- `CFG_WR.MASTER_ID16` (rule R186): write Master-ID register 16 and re-validate it. -/
def execCfgWrMasterId16 (secure : Bool) (data : Word) (s : State) : Result := midWrite 16 secure data s

/-- `CFG_WR.MASTER_ID17` (rule R187): write Master-ID register 17 and re-validate it. -/
def execCfgWrMasterId17 (secure : Bool) (data : Word) (s : State) : Result := midWrite 17 secure data s

/-- `CFG_WR.MASTER_ID18` (rule R188): write Master-ID register 18 and re-validate it. -/
def execCfgWrMasterId18 (secure : Bool) (data : Word) (s : State) : Result := midWrite 18 secure data s

/-- `CFG_WR.MASTER_ID19` (rule R189): write Master-ID register 19 and re-validate it. -/
def execCfgWrMasterId19 (secure : Bool) (data : Word) (s : State) : Result := midWrite 19 secure data s

end Sys2Proof.Machine
end

