-- ==== Sys2Proof/Machine/PermissionRam.lean ====
section
/-! DEFINITION. The permission-RAM window (rules R192 to R199). -/

namespace Sys2Proof.Machine

open Sys2Proof

/-- `CFG_RD.APL_64KB` (rule R192): k = off[9:2], entries 0 to 255. -/
def execCfgRdApl64kb (k : BitVec 8) (secure : Bool) (s : State) : Result := cfgRamRead k.toNat secure s

/-- `CFG_RD.APL_32B` (rule R193): 256 + off[8:2], entries 256 to 383. -/
def execCfgRdApl32b (k : BitVec 7) (secure : Bool) (s : State) : Result := cfgRamRead (256 + k.toNat) secure s

/-- `CFG_RD.APL_1MB` (rule R194): 384 + off[5:2], entries 384 to 399. -/
def execCfgRdApl1mb (k : BitVec 4) (secure : Bool) (s : State) : Result := cfgRamRead (384 + k.toNat) secure s

/-- `CFG_RD.APL_512MB` (rule R195): entry 400. -/
def execCfgRdApl512mb (secure : Bool) (s : State) : Result := cfgRamRead 400 secure s

/-- `CFG_WR.APL_64KB` (rule R196): k = off[9:2], entries 0 to 255. -/
def execCfgWrApl64kb (k : BitVec 8) (secure : Bool) (data : Word) (s : State) : Result :=
  cfgRamWrite k.toNat secure data s

/-- `CFG_WR.APL_32B` (rule R197): 256 + off[8:2], entries 256 to 383. -/
def execCfgWrApl32b (k : BitVec 7) (secure : Bool) (data : Word) (s : State) : Result :=
  cfgRamWrite (256 + k.toNat) secure data s

/-- `CFG_WR.APL_1MB` (rule R198): 384 + off[5:2], entries 384 to 399. -/
def execCfgWrApl1mb (k : BitVec 4) (secure : Bool) (data : Word) (s : State) : Result :=
  cfgRamWrite (384 + k.toNat) secure data s

/-- `CFG_WR.APL_512MB` (rule R199): entry 400. -/
def execCfgWrApl512mb (secure : Bool) (data : Word) (s : State) : Result := cfgRamWrite 400 secure data s

end Sys2Proof.Machine
end

