-- ==== Sys2Proof/Machine/Reset.lean ====
section
/-! DEFINITION. Reset (rule R270). -/

namespace Sys2Proof.Machine

open Sys2Proof

/-- `RESET` (rule R270): one atomic transition to the reset values. -/
def execReset (s : State) : Result := .next s.resetBlock

end Sys2Proof.Machine
end

