-- ==== Sys2Proof/Machine/Dispatch.lean ====
section
/-! DEFINITION. One arm per constructor of `Instr`, each one call of its meaning. -/

namespace Sys2Proof.Machine

open Sys2Proof

def exec (i : Instr) (s : State) : Host.Outcome State Fault Refusal :=
  match i with
  | .cfgRdCtrl secure => Sys2Proof.Machine.execCfgRdCtrl secure s
  | .cfgWrCtrl secure data => Sys2Proof.Machine.execCfgWrCtrl secure data s
  | .cfgRdErrStatus1 secure => Sys2Proof.Machine.execCfgRdErrStatus1 secure s
  | .cfgWrErrStatus1 secure data => Sys2Proof.Machine.execCfgWrErrStatus1 secure data s
  | .cfgRdErrStatus2 secure => Sys2Proof.Machine.execCfgRdErrStatus2 secure s
  | .cfgWrErrStatus2 secure data => Sys2Proof.Machine.execCfgWrErrStatus2 secure data s
  | .cfgRdPoison secure => Sys2Proof.Machine.execCfgRdPoison secure s
  | .cfgWrPoison secure data => Sys2Proof.Machine.execCfgWrPoison secure data s
  | .cfgRdIsr secure => Sys2Proof.Machine.execCfgRdIsr secure s
  | .cfgWrIsr secure data => Sys2Proof.Machine.execCfgWrIsr secure data s
  | .cfgRdImr secure => Sys2Proof.Machine.execCfgRdImr secure s
  | .cfgWrImr secure data => Sys2Proof.Machine.execCfgWrImr secure data s
  | .cfgRdIen secure => Sys2Proof.Machine.execCfgRdIen secure s
  | .cfgWrIen secure data => Sys2Proof.Machine.execCfgWrIen secure data s
  | .cfgRdIds secure => Sys2Proof.Machine.execCfgRdIds secure s
  | .cfgWrIds secure data => Sys2Proof.Machine.execCfgWrIds secure data s
  | .cfgRdMMasterIds secure => Sys2Proof.Machine.execCfgRdMMasterIds secure s
  | .cfgWrMMasterIds secure data => Sys2Proof.Machine.execCfgWrMMasterIds secure data s
  | .cfgRdMAperture32b secure => Sys2Proof.Machine.execCfgRdMAperture32b secure s
  | .cfgWrMAperture32b secure data => Sys2Proof.Machine.execCfgWrMAperture32b secure data s
  | .cfgRdMAperture64kb secure => Sys2Proof.Machine.execCfgRdMAperture64kb secure s
  | .cfgWrMAperture64kb secure data => Sys2Proof.Machine.execCfgWrMAperture64kb secure data s
  | .cfgRdMAperture1mb secure => Sys2Proof.Machine.execCfgRdMAperture1mb secure s
  | .cfgWrMAperture1mb secure data => Sys2Proof.Machine.execCfgWrMAperture1mb secure data s
  | .cfgRdMAperture512mb secure => Sys2Proof.Machine.execCfgRdMAperture512mb secure s
  | .cfgWrMAperture512mb secure data => Sys2Proof.Machine.execCfgWrMAperture512mb secure data s
  | .cfgRdBase32b secure => Sys2Proof.Machine.execCfgRdBase32b secure s
  | .cfgWrBase32b secure data => Sys2Proof.Machine.execCfgWrBase32b secure data s
  | .cfgRdBase64kb secure => Sys2Proof.Machine.execCfgRdBase64kb secure s
  | .cfgWrBase64kb secure data => Sys2Proof.Machine.execCfgWrBase64kb secure data s
  | .cfgRdBase1mb secure => Sys2Proof.Machine.execCfgRdBase1mb secure s
  | .cfgWrBase1mb secure data => Sys2Proof.Machine.execCfgWrBase1mb secure data s
  | .cfgRdBase512mb secure => Sys2Proof.Machine.execCfgRdBase512mb secure s
  | .cfgWrBase512mb secure data => Sys2Proof.Machine.execCfgWrBase512mb secure data s
  | .cfgRdEco secure => Sys2Proof.Machine.execCfgRdEco secure s
  | .cfgWrEco secure data => Sys2Proof.Machine.execCfgWrEco secure data s
  | .cfgRdRamAdj secure => Sys2Proof.Machine.execCfgRdRamAdj secure s
  | .cfgWrRamAdj secure data => Sys2Proof.Machine.execCfgWrRamAdj secure data s
  | .cfgRdMasterId00 secure => Sys2Proof.Machine.execCfgRdMasterId00 secure s
  | .cfgRdMasterId01 secure => Sys2Proof.Machine.execCfgRdMasterId01 secure s
  | .cfgRdMasterId02 secure => Sys2Proof.Machine.execCfgRdMasterId02 secure s
  | .cfgRdMasterId03 secure => Sys2Proof.Machine.execCfgRdMasterId03 secure s
  | .cfgRdMasterId04 secure => Sys2Proof.Machine.execCfgRdMasterId04 secure s
  | .cfgRdMasterId05 secure => Sys2Proof.Machine.execCfgRdMasterId05 secure s
  | .cfgRdMasterId06 secure => Sys2Proof.Machine.execCfgRdMasterId06 secure s
  | .cfgRdMasterId07 secure => Sys2Proof.Machine.execCfgRdMasterId07 secure s
  | .cfgRdMasterId08 secure => Sys2Proof.Machine.execCfgRdMasterId08 secure s
  | .cfgRdMasterId09 secure => Sys2Proof.Machine.execCfgRdMasterId09 secure s
  | .cfgRdMasterId10 secure => Sys2Proof.Machine.execCfgRdMasterId10 secure s
  | .cfgRdMasterId11 secure => Sys2Proof.Machine.execCfgRdMasterId11 secure s
  | .cfgRdMasterId12 secure => Sys2Proof.Machine.execCfgRdMasterId12 secure s
  | .cfgRdMasterId13 secure => Sys2Proof.Machine.execCfgRdMasterId13 secure s
  | .cfgRdMasterId14 secure => Sys2Proof.Machine.execCfgRdMasterId14 secure s
  | .cfgRdMasterId15 secure => Sys2Proof.Machine.execCfgRdMasterId15 secure s
  | .cfgRdMasterId16 secure => Sys2Proof.Machine.execCfgRdMasterId16 secure s
  | .cfgRdMasterId17 secure => Sys2Proof.Machine.execCfgRdMasterId17 secure s
  | .cfgRdMasterId18 secure => Sys2Proof.Machine.execCfgRdMasterId18 secure s
  | .cfgRdMasterId19 secure => Sys2Proof.Machine.execCfgRdMasterId19 secure s
  | .cfgWrMasterId00 secure data => Sys2Proof.Machine.execCfgWrMasterId00 secure data s
  | .cfgWrMasterId01 secure data => Sys2Proof.Machine.execCfgWrMasterId01 secure data s
  | .cfgWrMasterId02 secure data => Sys2Proof.Machine.execCfgWrMasterId02 secure data s
  | .cfgWrMasterId03 secure data => Sys2Proof.Machine.execCfgWrMasterId03 secure data s
  | .cfgWrMasterId04 secure data => Sys2Proof.Machine.execCfgWrMasterId04 secure data s
  | .cfgWrMasterId05 secure data => Sys2Proof.Machine.execCfgWrMasterId05 secure data s
  | .cfgWrMasterId06 secure data => Sys2Proof.Machine.execCfgWrMasterId06 secure data s
  | .cfgWrMasterId07 secure data => Sys2Proof.Machine.execCfgWrMasterId07 secure data s
  | .cfgWrMasterId08 secure data => Sys2Proof.Machine.execCfgWrMasterId08 secure data s
  | .cfgWrMasterId09 secure data => Sys2Proof.Machine.execCfgWrMasterId09 secure data s
  | .cfgWrMasterId10 secure data => Sys2Proof.Machine.execCfgWrMasterId10 secure data s
  | .cfgWrMasterId11 secure data => Sys2Proof.Machine.execCfgWrMasterId11 secure data s
  | .cfgWrMasterId12 secure data => Sys2Proof.Machine.execCfgWrMasterId12 secure data s
  | .cfgWrMasterId13 secure data => Sys2Proof.Machine.execCfgWrMasterId13 secure data s
  | .cfgWrMasterId14 secure data => Sys2Proof.Machine.execCfgWrMasterId14 secure data s
  | .cfgWrMasterId15 secure data => Sys2Proof.Machine.execCfgWrMasterId15 secure data s
  | .cfgWrMasterId16 secure data => Sys2Proof.Machine.execCfgWrMasterId16 secure data s
  | .cfgWrMasterId17 secure data => Sys2Proof.Machine.execCfgWrMasterId17 secure data s
  | .cfgWrMasterId18 secure data => Sys2Proof.Machine.execCfgWrMasterId18 secure data s
  | .cfgWrMasterId19 secure data => Sys2Proof.Machine.execCfgWrMasterId19 secure data s
  | .cfgRdApl64kb k secure => Sys2Proof.Machine.execCfgRdApl64kb k secure s
  | .cfgRdApl32b k secure => Sys2Proof.Machine.execCfgRdApl32b k secure s
  | .cfgRdApl1mb k secure => Sys2Proof.Machine.execCfgRdApl1mb k secure s
  | .cfgRdApl512mb secure => Sys2Proof.Machine.execCfgRdApl512mb secure s
  | .cfgWrApl64kb k secure data => Sys2Proof.Machine.execCfgWrApl64kb k secure data s
  | .cfgWrApl32b k secure data => Sys2Proof.Machine.execCfgWrApl32b k secure data s
  | .cfgWrApl1mb k secure data => Sys2Proof.Machine.execCfgWrApl1mb k secure data s
  | .cfgWrApl512mb secure data => Sys2Proof.Machine.execCfgWrApl512mb secure data s
  | .cfgRdHole off secure => Sys2Proof.Machine.execCfgRdHole off secure s
  | .cfgWrHole off secure data => Sys2Proof.Machine.execCfgWrHole off secure data s
  | .cfgRdOor off secure => Sys2Proof.Machine.execCfgRdOor off secure s
  | .cfgWrOor off secure data => Sys2Proof.Machine.execCfgWrOor off secure data s
  | .apRd32b off size masterId secure => Sys2Proof.Machine.execApRd32b off size masterId secure s
  | .apWr32b off size masterId secure data => Sys2Proof.Machine.execApWr32b off size masterId secure data s
  | .apRd64kb off size masterId secure => Sys2Proof.Machine.execApRd64kb off size masterId secure s
  | .apWr64kb off size masterId secure data => Sys2Proof.Machine.execApWr64kb off size masterId secure data s
  | .apRd1mb off size masterId secure => Sys2Proof.Machine.execApRd1mb off size masterId secure s
  | .apWr1mb off size masterId secure data => Sys2Proof.Machine.execApWr1mb off size masterId secure data s
  | .apRd512mb off size masterId secure => Sys2Proof.Machine.execApRd512mb off size masterId secure s
  | .apWr512mb off size masterId secure data => Sys2Proof.Machine.execApWr512mb off size masterId secure data s
  | .reset => Sys2Proof.Machine.execReset s

end Sys2Proof.Machine
end

