-- ==== Sys2Proof/Machine/Step.lean ====
section
/-! DEFINITION. One step: the block takes the next delivery, decodes it and runs it (rules R11, R58, R59). -/

namespace Sys2Proof.Machine

open Sys2Proof

/-- One transition: the next delivered transaction or reset, run to completion. With nothing delivered the state
stays: "The firewall itself takes no step of its own" (rule R11). -/
def step (s : State) : Host.Outcome State Fault Refusal :=
  match s.nextDelivery with
  | none => .next s
  | some (d, t) =>
    match decode t.cfg d with
    | .ok i => exec i t
    | .error r => .refused (refusalOf r)

/-- `s` with the delivery that the `nbits` bits `w` stand for placed first in the inbox, where the next step takes
it. It stands for the host's delivery of a transaction (notes/assumptions/7.md). -/
def State.withFetchWord (s : State) (nbits w : Nat) : State := s.deliver (Delivery.ofTableWord nbits w)

end Sys2Proof.Machine
end

