-- ==== Sys2Proof/Safety.lean ====
section
/-! DEFINITION. What claims speak of: the invariant of a run, the operations by family, and the permission check's
terms as the rules define them. -/

namespace Sys2Proof

open Sys2Proof.Machine

/-! ### The invariant -/

namespace Machine

/-- What every reachable state keeps: the instance's APERTURES rows stay inside the permission RAM (rule R85), the
permission RAM is canonical and inside its window (rule R51), the reserved bits of ISR, IMR and the Master-ID registers
read 0 (rules R77, R81, R89), and `WIN_EN[a] = CTRL.ENABLE` (rule R30). -/
abbrev State.Inv (s : State) : Prop :=
  s.cfg.wf = true ∧ s.ram.wf = true ∧ s.ram.inWindow s.cfg.nrApl = true ∧ s.isr &&& 0x10#8 = 0#8 ∧ s.imr &&& 0x10#8 = 0#8 ∧
    (∀ i : Fin 20, s.mid[i] &&& 0x3C00FC00#32 = 0#32) ∧ s.winEn = WinEn.all (s.ctrl.getLsbD 0)

/-- A step that answers a next state or refuses: it does not stop with a fault. -/
abbrev safe (r : Host.Outcome State Fault Refusal) : Prop := ∀ f, r ≠ .fault f

end Machine

/-! ### The operations by family -/

/-- The read of Master-ID register `i` (rules R150 to R169). -/
def Instr.midRd (i : Fin 20) : Bool → Instr :=
  (#v[.cfgRdMasterId00, .cfgRdMasterId01, .cfgRdMasterId02, .cfgRdMasterId03,
    .cfgRdMasterId04, .cfgRdMasterId05, .cfgRdMasterId06, .cfgRdMasterId07,
    .cfgRdMasterId08, .cfgRdMasterId09, .cfgRdMasterId10, .cfgRdMasterId11,
    .cfgRdMasterId12, .cfgRdMasterId13, .cfgRdMasterId14, .cfgRdMasterId15,
    .cfgRdMasterId16, .cfgRdMasterId17, .cfgRdMasterId18, .cfgRdMasterId19] : Vector (Bool → Instr) 20)[i]

/-- The write of Master-ID register `i` (rules R170 to R189). -/
def Instr.midWr (i : Fin 20) : Bool → Word → Instr :=
  (#v[.cfgWrMasterId00, .cfgWrMasterId01, .cfgWrMasterId02, .cfgWrMasterId03,
    .cfgWrMasterId04, .cfgWrMasterId05, .cfgWrMasterId06, .cfgWrMasterId07,
    .cfgWrMasterId08, .cfgWrMasterId09, .cfgWrMasterId10, .cfgWrMasterId11,
    .cfgWrMasterId12, .cfgWrMasterId13, .cfgWrMasterId14, .cfgWrMasterId15,
    .cfgWrMasterId16, .cfgWrMasterId17, .cfgWrMasterId18, .cfgWrMasterId19] : Vector (Bool → Word → Instr) 20)[i]

/-- The write of permission-RAM entry `k`: of its sub-block (rules R196 to R199), or, for an entry past the 401 the table
is written for, of its offset 0x1000 + 4·k (notes/assumptions/27.md). -/
def Instr.wrEntry (k : Nat) : Bool → Word → Instr :=
  if k < 256 then .cfgWrApl64kb (BitVec.ofNat 8 k)
  else if k < 384 then .cfgWrApl32b (BitVec.ofNat 7 (k - 256))
  else if k < 400 then .cfgWrApl1mb (BitVec.ofNat 4 (k - 384))
  else if k = 400 then .cfgWrApl512mb
  else .cfgWrOor (BitVec.ofNat 32 (0x1000 + 4 * k))

/-- The aperture operation of an aperture and a direction (rules R220 to R227). -/
def Instr.ap (a : Aperture) (off : Word) (size : Nat) (access : Access) (masterId : Word) (secure : Bool) : Instr :=
  match a, access with
  | .ap32b, .read => .apRd32b off size masterId secure
  | .ap32b, .write data => .apWr32b off size masterId secure data
  | .ap64kb, .read => .apRd64kb off size masterId secure
  | .ap64kb, .write data => .apWr64kb off size masterId secure data
  | .ap1mb, .read => .apRd1mb off size masterId secure
  | .ap1mb, .write data => .apWr1mb off size masterId secure data
  | .ap512mb, .read => .apRd512mb off size masterId secure
  | .ap512mb, .write data => .apWr512mb off size masterId secure data

/-- What kind of delivery an instruction stands for. -/
inductive OpKind where
  /-- A configuration access to a defined register or to the permission-RAM window. -/
  | defined (write secure : Bool)
  /-- A register-block hole (rule R87). -/
  | hole (write secure : Bool)
  /-- An out-of-range offset (rule R88). -/
  | outOfRange (write secure : Bool)
  /-- An aperture access. -/
  | aperture (secure : Bool)
  /-- The reset signal. -/
  | reset
deriving DecidableEq, Repr

/-- The kind of an instruction. -/
def Instr.kind : Instr → OpKind
  | .cfgRdCtrl secure => .defined false secure
  | .cfgWrCtrl secure _ => .defined true secure
  | .cfgRdErrStatus1 secure => .defined false secure
  | .cfgWrErrStatus1 secure _ => .defined true secure
  | .cfgRdErrStatus2 secure => .defined false secure
  | .cfgWrErrStatus2 secure _ => .defined true secure
  | .cfgRdPoison secure => .defined false secure
  | .cfgWrPoison secure _ => .defined true secure
  | .cfgRdIsr secure => .defined false secure
  | .cfgWrIsr secure _ => .defined true secure
  | .cfgRdImr secure => .defined false secure
  | .cfgWrImr secure _ => .defined true secure
  | .cfgRdIen secure => .defined false secure
  | .cfgWrIen secure _ => .defined true secure
  | .cfgRdIds secure => .defined false secure
  | .cfgWrIds secure _ => .defined true secure
  | .cfgRdMMasterIds secure => .defined false secure
  | .cfgWrMMasterIds secure _ => .defined true secure
  | .cfgRdMAperture32b secure => .defined false secure
  | .cfgWrMAperture32b secure _ => .defined true secure
  | .cfgRdMAperture64kb secure => .defined false secure
  | .cfgWrMAperture64kb secure _ => .defined true secure
  | .cfgRdMAperture1mb secure => .defined false secure
  | .cfgWrMAperture1mb secure _ => .defined true secure
  | .cfgRdMAperture512mb secure => .defined false secure
  | .cfgWrMAperture512mb secure _ => .defined true secure
  | .cfgRdBase32b secure => .defined false secure
  | .cfgWrBase32b secure _ => .defined true secure
  | .cfgRdBase64kb secure => .defined false secure
  | .cfgWrBase64kb secure _ => .defined true secure
  | .cfgRdBase1mb secure => .defined false secure
  | .cfgWrBase1mb secure _ => .defined true secure
  | .cfgRdBase512mb secure => .defined false secure
  | .cfgWrBase512mb secure _ => .defined true secure
  | .cfgRdEco secure => .defined false secure
  | .cfgWrEco secure _ => .defined true secure
  | .cfgRdRamAdj secure => .defined false secure
  | .cfgWrRamAdj secure _ => .defined true secure
  | .cfgRdMasterId00 secure => .defined false secure
  | .cfgRdMasterId01 secure => .defined false secure
  | .cfgRdMasterId02 secure => .defined false secure
  | .cfgRdMasterId03 secure => .defined false secure
  | .cfgRdMasterId04 secure => .defined false secure
  | .cfgRdMasterId05 secure => .defined false secure
  | .cfgRdMasterId06 secure => .defined false secure
  | .cfgRdMasterId07 secure => .defined false secure
  | .cfgRdMasterId08 secure => .defined false secure
  | .cfgRdMasterId09 secure => .defined false secure
  | .cfgRdMasterId10 secure => .defined false secure
  | .cfgRdMasterId11 secure => .defined false secure
  | .cfgRdMasterId12 secure => .defined false secure
  | .cfgRdMasterId13 secure => .defined false secure
  | .cfgRdMasterId14 secure => .defined false secure
  | .cfgRdMasterId15 secure => .defined false secure
  | .cfgRdMasterId16 secure => .defined false secure
  | .cfgRdMasterId17 secure => .defined false secure
  | .cfgRdMasterId18 secure => .defined false secure
  | .cfgRdMasterId19 secure => .defined false secure
  | .cfgWrMasterId00 secure _ => .defined true secure
  | .cfgWrMasterId01 secure _ => .defined true secure
  | .cfgWrMasterId02 secure _ => .defined true secure
  | .cfgWrMasterId03 secure _ => .defined true secure
  | .cfgWrMasterId04 secure _ => .defined true secure
  | .cfgWrMasterId05 secure _ => .defined true secure
  | .cfgWrMasterId06 secure _ => .defined true secure
  | .cfgWrMasterId07 secure _ => .defined true secure
  | .cfgWrMasterId08 secure _ => .defined true secure
  | .cfgWrMasterId09 secure _ => .defined true secure
  | .cfgWrMasterId10 secure _ => .defined true secure
  | .cfgWrMasterId11 secure _ => .defined true secure
  | .cfgWrMasterId12 secure _ => .defined true secure
  | .cfgWrMasterId13 secure _ => .defined true secure
  | .cfgWrMasterId14 secure _ => .defined true secure
  | .cfgWrMasterId15 secure _ => .defined true secure
  | .cfgWrMasterId16 secure _ => .defined true secure
  | .cfgWrMasterId17 secure _ => .defined true secure
  | .cfgWrMasterId18 secure _ => .defined true secure
  | .cfgWrMasterId19 secure _ => .defined true secure
  | .cfgRdApl64kb _ secure => .defined false secure
  | .cfgRdApl32b _ secure => .defined false secure
  | .cfgRdApl1mb _ secure => .defined false secure
  | .cfgRdApl512mb secure => .defined false secure
  | .cfgWrApl64kb _ secure _ => .defined true secure
  | .cfgWrApl32b _ secure _ => .defined true secure
  | .cfgWrApl1mb _ secure _ => .defined true secure
  | .cfgWrApl512mb secure _ => .defined true secure
  | .cfgRdHole _ secure => .hole false secure
  | .cfgWrHole _ secure _ => .hole true secure
  | .cfgRdOor _ secure => .outOfRange false secure
  | .cfgWrOor _ secure _ => .outOfRange true secure
  | .apRd32b _ _ _ secure => .aperture secure
  | .apWr32b _ _ _ secure _ => .aperture secure
  | .apRd64kb _ _ _ secure => .aperture secure
  | .apWr64kb _ _ _ secure _ => .aperture secure
  | .apRd1mb _ _ _ secure => .aperture secure
  | .apWr1mb _ _ _ secure _ => .aperture secure
  | .apRd512mb _ _ _ secure => .aperture secure
  | .apWr512mb _ _ _ secure _ => .aperture secure
  | .reset => .reset

/-- Whether the delivery carries the secure attribute; the reset signal carries none. -/
def OpKind.secure : OpKind → Option Bool
  | .defined _ b | .hole _ b | .outOfRange _ b | .aperture b => some b
  | .reset => none

/-! ### The permission check in the rules' own terms -/

namespace Machine

/-- The absolute address of an aperture offset: `APERTURES[a].base + off` (rule R200). -/
def State.addressOf (s : State) (a : Aperture) (off : Word) : Word := (s.cfg.aperture a).base + off

/-- The APL entry an aperture access is checked against: `RAM[k]` with the k of rule R85, read at configuration-window
offset 0x1000 + 4·k. -/
def State.entryFor (s : State) (a : Aperture) (off : Word) : Word :=
  let d := s.cfg.aperture a
  readWord s.ram (0x1000 + 4 * (d.ramBase + ((s.addressOf a off >>> d.shift) &&& d.mask).toNat))

/-- APL-parity checking is on and the entry fails it (rule R204). -/
abbrev State.entryFails (s : State) (e : Word) : Prop := s.ctrl.getLsbD 2 = true ∧ aplParityOk e = false

/-- Slot `i` is skipped for its parity (rule R205). -/
abbrev State.slotFails (s : State) (i : Fin 20) : Prop := s.ctrl.getLsbD 1 = true ∧ midParityOk s.mid[i] = false

/-- Slot `i` matches the requester (rule R206). -/
abbrev State.slotMatches (s : State) (id : BitVec 10) (i : Fin 20) : Prop :=
  s.mid[i].extractLsb' 0 10 &&& s.mid[i].extractLsb' 16 10 = id &&& s.mid[i].extractLsb' 16 10

/-- Slot `i` is enabled by the entry, passes parity and matches the requester. -/
abbrev State.slotHits (s : State) (e : Word) (id : BitVec 10) (i : Fin 20) : Prop :=
  e.getLsbD i = true ∧ ¬s.slotFails i ∧ s.slotMatches id i

/-- Slot `i` is a read-only slot hit by a write (rule R207). -/
abbrev State.slotReadOnly (s : State) (w : Bool) (i : Fin 20) : Prop := s.mid[i].getLsbD 30 = true ∧ w = true

/-- Slot `i` authorizes the transaction (rule R209). -/
abbrev State.slotAdmits (s : State) (e : Word) (id : BitVec 10) (w secure : Bool) (i : Fin 20) : Prop :=
  s.slotHits e id i ∧ ¬s.slotReadOnly w i ∧ (secure = true ∨ e.getLsbD 27 = true)

/-- The scan reaches slot `i`: no lower slot authorizes (rule R209). -/
abbrev State.slotReached (s : State) (e : Word) (id : BitVec 10) (w secure : Bool) (i : Fin 20) : Prop :=
  ∀ j : Fin 20, j < i → ¬s.slotAdmits e id w secure j

/-- The answer the requester gets from the downstream access made now (rule R215). -/
def State.downAnswer (s : State) (target : Word) (size : Nat) : Access → Answer
  | .read =>
    .read (lowBytes size (Config.downReadData s.draws target size)) (Config.downReadResp s.draws target size)
  | .write data => .write (Config.downWriteResp s.draws target size data)

/-- A set of ISR bits if a condition holds, else none. -/
def bitsIf (b : BitVec 8) (p : Prop) [Decidable p] : BitVec 8 := if p then b else 0#8

/-- ISR after the check, each bit by the rule that sets it: APER_PARITY alone when the entry fails its parity
(rule R204); else MID_PARITY (rule R205), MID_RO (rule R207) and APER_TZ (rule R208) when the scan reaches a slot that
sets it, and MID_MISS when no enabled, parity-passing slot matches (rule R210). -/
def State.isrAfterCheck (s : State) (e : Word) (id : BitVec 10) (w secure : Bool) : BitVec 8 :=
  if s.entryFails e then s.isr ||| 0x80#8
  else
    s.isr |||
      bitsIf 0x08#8 (∃ i : Fin 20, s.slotReached e id w secure i ∧ e.getLsbD i = true ∧ s.slotFails i) |||
      bitsIf 0x04#8 (∃ i : Fin 20, s.slotReached e id w secure i ∧ s.slotHits e id i ∧ s.slotReadOnly w i) |||
      bitsIf 0x40#8 (∃ i : Fin 20, s.slotReached e id w secure i ∧ s.slotHits e id i ∧ ¬s.slotReadOnly w i ∧
        secure = false ∧ e.getLsbD 27 = false) |||
      bitsIf 0x02#8 (∀ i : Fin 20, ¬s.slotHits e id i)

/-- The check authorizes (rules R204, R209). -/
abbrev State.authorized (s : State) (e : Word) (id : BitVec 10) (w secure : Bool) : Prop :=
  ¬s.entryFails e ∧ ∃ i : Fin 20, s.slotAdmits e id w secure i

/-- No bit of `LATCH_BLOCK_MASK` is pending (rule R202). -/
abbrev State.latchFree (s : State) : Prop := s.isr &&& s.cfg.latchBlockMask = 0#8

/-! ### Templates of the per-register rules -/

/-- Every admitted configuration transaction with this key, in every instance whose window holds its offset, is this
operation. -/
def DecodesTo (key : BitVec 36) (op : Transaction → Instr) : Prop :=
  ∀ (c : Config) (t : Transaction), t.key = key → t.off.toNat < c.cfgWindowSize → t.atomic = false → t.size = 4 →
    decode c (.transaction t) = .ok (op t)

/-- A configuration-read rule of 40_config_registers.md: every admitted transaction with this key is this operation, and
the secure operation answers `value` with response OK and changes nothing else. -/
def ReadsAs (key : BitVec 36) (op : Bool → Instr) (value : State → Word) : Prop :=
  DecodesTo key (fun t => op t.secure) ∧
    ∀ s : State, exec (op true) s = .next { s with answer := .read ((value s).setWidth 64) .ok }

/-- A configuration-write rule: every admitted transaction with this key is this operation, and the secure operation
has `effect`, answers OK and changes nothing else. -/
def WritesAs (key : BitVec 36) (op : Bool → Word → Instr) (effect : Word → State → State) : Prop :=
  DecodesTo key (fun t => op t.secure (t.data.setWidth 32)) ∧
    ∀ (s : State) (data : Word), exec (op true data) s = .next { effect data s with answer := .write .ok }

/-- The permission-RAM read of one entry: it answers the entry and changes nothing else. -/
def readsEntry (i : Instr) (k : Nat) (s : State) : Prop :=
  exec i s = .next { s with answer := .read ((readWord s.ram (0x1000 + 4 * k)).setWidth 64) .ok }

/-- The permission-RAM write of one entry: it runs, the entry then holds the data, every byte outside the entry reads as
before, and nothing else changes but the answer. -/
def storesEntry (i : Instr) (k : Nat) (data : Word) (s : State) : Prop :=
  ∃ m : Memory, exec i s = .next { s with ram := m, answer := .write .ok } ∧
    readWord m (0x1000 + 4 * k) = data ∧
    ∀ a, (a < 0x1000 + 4 * k ∨ 0x1000 + 4 * k + 4 ≤ a) → readByte m a = readByte s.ram a

/-- A permission-RAM read rule of 41_permission_ram.md for entry `k`, in an instance that has it. -/
def ReadsEntry (key : BitVec 36) (op : Bool → Instr) (k : Nat) : Prop :=
  DecodesTo key (fun t => op t.secure) ∧ ∀ s : State, k < s.cfg.nrApl → readsEntry (op true) k s

/-- A permission-RAM write rule for entry `k`, in an instance that has it. -/
def WritesEntry (key : BitVec 36) (op : Bool → Word → Instr) (k : Nat) : Prop :=
  DecodesTo key (fun t => op t.secure (t.data.setWidth 32)) ∧
    ∀ (s : State) (data : Word), k < s.cfg.nrApl → s.ram.wf = true → storesEntry (op true data) k data s

end Machine

end Sys2Proof
end

