-- ==== Sys2Proof/Certificates/Slice0/Obligations.lean ====
section
/-! DEFINITION. The statements for the provers, from the numbered rules of spec/. A statement speaks of every state, and
so of every configuration of the instance. -/

open Sys2Proof Sys2Proof.Machine

/-! ### Delivery and decoding -/

/-- The decoder of an instance reads back every well-formed instruction from the delivery the encoder writes (rules R70
to R73, R86 to R88, R92). Which offsets past the rows of the table are well-formed in an instance with another
CFG_WINDOW_SIZE is the model's reading (notes/assumptions/27.md). -/
def Obligations.DecodeOfEncodeIsIdentity : Prop :=
  ∀ (c : Config) (i : Instr), i.wf c = true → decode c (encode i) = .ok i

/-- The same through the 142-bit image, the model's own layout (notes/assumptions/9.md), for the default configuration
window, the one `decodeTableWord` decodes for. -/
def Obligations.ImageOfEncodeDecodesBack : Prop :=
  ∀ (c : Config) (i : Instr), c.cfgWindowSize = Config.default.cfgWindowSize → i.wf c = true → i ≠ .reset →
    decodeTableWord 142 (encodeImage i).toNat = some i

/-- An aligned configuration word access is a hole access exactly at the offsets of rule R87 inside the configuration
window, an out-of-range access exactly at those of rule R88 inside it, and nothing of this block past it (rules R91,
R92). Rules R88 and R91 end the window at 0x10000, the default of CFG_WINDOW_SIZE; that in an instance with another
value the out-of-range offsets run up to that value and the refusal starts at it is the model's reading
(notes/assumptions/27.md, DEDUCED). -/
def Obligations.ConfigOffsetsPartition : Prop :=
  ∀ (c : Config) (t : Transaction), t.win = 0#3 → t.atomic = false → t.size = 4 → t.off.extractLsb' 0 2 = 0#2 →
    ((decode c (.transaction t) =
          .ok (if t.write then .cfgWrHole t.off t.secure (t.data.setWidth 32) else .cfgRdHole t.off t.secure)) ↔
        (t.off.toNat < c.cfgWindowSize ∧ isHoleOffset t.off = true)) ∧
      ((decode c (.transaction t) =
          .ok (if t.write then .cfgWrOor t.off t.secure (t.data.setWidth 32) else .cfgRdOor t.off t.secure)) ↔
        (t.off.toNat < c.cfgWindowSize ∧ isOutOfRangeOffset t.off = true)) ∧
      (decode c (.transaction t) = .error .notThisBlock ↔ c.cfgWindowSize ≤ t.off.toNat)

/-- A few words written out: bits 35:0 are the keys of rules R102, R109, R189, R196, R143 and R227. That a word has 40
bits, and that zeros above the key mean a secure 4-byte access of master 0 with payload 0, is the model's own image of a
delivery (notes/assumptions/9.md). -/
def Obligations.WrittenOutWordsDecode : Prop :=
  decodeTableWord 40 0x000000000 = some (.cfgRdCtrl true) ∧
    decodeTableWord 40 0x10000000C = some (.cfgWrPoison true 0#32) ∧
    decodeTableWord 40 0x10000014C = some (.cfgWrMasterId19 true 0#32) ∧
    decodeTableWord 40 0x100001028 = some (.cfgWrApl64kb 10#8 true 0#32) ∧
    decodeTableWord 40 0x000001644 = some (.cfgRdOor 0x1644#32 true) ∧
    decodeTableWord 40 0x91FFFFFFC = some (.apWr512mb 0x1FFFFFFC#32 4 0#32 true 0#64)

/-- "A transaction carrying an atomic or exclusive attribute is refused by the model" (rule R62, decision D23;
notes/assumptions/25.md). That this reason is given also where rule R54 or R91 refuses is the model's order of refusals
(notes/assumptions/10.md). -/
def Obligations.AtomicTransactionIsRefused : Prop :=
  ∀ (s : State) (t : Transaction) (rest : List Delivery),
    s.inbox = .transaction t :: rest → t.atomic = true → step s = .refused .atomicAttribute

/-- A configuration access of another size or alignment is refused (rule R54, the spec's decision D12;
notes/assumptions/29.md), for a transaction that rule R62 does not refuse already (notes/assumptions/10.md). -/
def Obligations.NonWordConfigAccessIsRefused : Prop :=
  ∀ (s : State) (t : Transaction) (rest : List Delivery),
    s.inbox = .transaction t :: rest → t.atomic = false → t.win = 0#3 →
      (t.size ≠ 4 ∨ t.off.extractLsb' 0 2 ≠ 0#2) → step s = .refused .cfgSizeOrAlignment

/-- A key of window code 101, 110 or 111, or an aligned configuration word past the configuration window, is refused
(rule R91), for a transaction that rule R62 does not refuse already (notes/assumptions/10.md). Rule R91 writes the
bound as 0x10000, the default of CFG_WINDOW_SIZE (rules R6, R51); that the bound follows the parameter is the model's
reading (notes/assumptions/27.md, DEDUCED). -/
def Obligations.ForeignKeyIsRefused : Prop :=
  ∀ (s : State) (t : Transaction) (rest : List Delivery),
    s.inbox = .transaction t :: rest → t.atomic = false →
      (t.win = 5#3 ∨ t.win = 6#3 ∨ t.win = 7#3 ∨
        (t.win = 0#3 ∧ t.size = 4 ∧ t.off.extractLsb' 0 2 = 0#2 ∧ s.cfg.cfgWindowSize ≤ t.off.toNat)) →
      step s = .refused .notThisBlock

/-- An aperture access is refused exactly where one of the three conditions of rule R55 fails (the spec's decision D20;
notes/assumptions/29.md). That this holds of a disabled window too, where rules R66 and R201 answer NotDecoded to an
admitted access, is the order the model deduces from rules R92 and R200 (notes/assumptions/10.md). -/
def Obligations.ApertureAdmissionIsThreeConditions : Prop :=
  ∀ (s : State) (a : Aperture) (off : Word) (size : Nat) (access : Access) (masterId : Word) (secure : Bool),
    exec (.ap a off size access masterId secure) s = .refused .apertureRange ↔
      ¬((size = 1 ∨ size = 2 ∨ size = 4 ∨ size = 8) ∧ off.toNat + size ≤ (s.cfg.aperture a).windowSize ∧
        (s.cfg.aperture a).base.toNat + off.toNat + size ≤ 2 ^ 32)

/-- A step runs the instruction the next delivery decodes to, on the state with that delivery taken out
(rules R58, R59). The inbox is the model's form of the host's deliveries (notes/assumptions/7.md). -/
def Obligations.StepRunsDecodedInstruction : Prop :=
  ∀ (s : State) (d : Delivery) (rest : List Delivery) (i : Instr),
    s.inbox = d :: rest → decode s.cfg d = .ok i → step s = exec i { s with inbox := rest }

/-- The model's choice (notes/assumptions/7.md): with nothing delivered a step changes nothing. -/
def Obligations.IdleStepChangesNothing : Prop :=
  ∀ s : State, s.inbox = [] → step s = .next s

/-- Every step leaves the instance's configuration alone (rule R37). The model's choice: it leaves the tail of the inbox,
taking its head when there is one (notes/assumptions/7.md), and reset leaves the rest of the inbox too
(notes/assumptions/20.md). -/
def Obligations.StepKeepsConfigurationAndQueue : Prop :=
  ∀ s t : State, step s = .next t → t.cfg = s.cfg ∧ t.inbox = s.inbox.tail

/-! ### Invariants -/

/-- Every step keeps the invariant, from every state that has it. That the reserved bits of the registers take no write
is the spec's decision D14 (notes/assumptions/16.md). -/
def Obligations.StepKeepsInv : Prop :=
  ∀ s t : State, s.Inv → step s = .next t → t.Inv

/-- The state after reset of every instance whose APERTURES rows stay inside the permission RAM has the invariant, the
default instance among them. The zeros of ISR and CTRL are the spec's decision D4 (notes/assumptions/4.md), and the
masking of MID_RESET and IMR_RESET is the model's (notes/assumptions/23.md). -/
def Obligations.ResetHasInv : Prop :=
  (∀ (c : Config) (draw : Nat), c.wf = true → (State.afterReset c draw).Inv) ∧ State.reset.Inv

/-- In a state with the invariant a step is never a fault: "A run of the block never stops on its own and never faults"
(rule R281), of which this is the second half. The fault itself, for a table that rule R85 rules out, is the model's
(notes/assumptions/13.md). -/
def Obligations.InvExcludesFaults : Prop := ∀ s : State, s.Inv → safe (step s)

/-- Rule R30, for every operation: an instance whose window enables follow CTRL.ENABLE keeps them following it. -/
def Obligations.WindowEnablesFollowCtrl : Prop :=
  ∀ (i : Instr) (s t : State), (∀ a, s.winEn.get a = s.ctrl.getLsbD 0) → exec i s = .next t →
    ∀ a, t.winEn.get a = t.ctrl.getLsbD 0

/-! ### Configuration registers -/

/-- Rules R102, R104, R106, R108, R136 and R138. That ECO and RAM_ADJ are plain storage is the spec's decision D17
(notes/assumptions/29.md). -/
def Obligations.StoredRegisterReads : Prop :=
  ReadsAs 0x000000000#36 .cfgRdCtrl (fun s => s.ctrl.setWidth 32) ∧
    ReadsAs 0x000000004#36 .cfgRdErrStatus1 (fun s => s.errStatus1.setWidth 32) ∧
    ReadsAs 0x000000008#36 .cfgRdErrStatus2 (fun s => s.errStatus2.setWidth 32) ∧
    ReadsAs 0x00000000C#36 .cfgRdPoison (fun s => s.poison.setWidth 32) ∧
    ReadsAs 0x0000000FC#36 .cfgRdEco (fun s => s.eco) ∧
    ReadsAs 0x0000001FC#36 .cfgRdRamAdj (fun s => s.ramAdj)

/-- Rules R110, R112, R114 and R116. That IEN and IDS read 0 is the spec's own decision D15 (notes/assumptions/16.md). -/
def Obligations.InterruptRegisterReads : Prop :=
  ReadsAs 0x000000010#36 .cfgRdIsr (fun s => (s.isr &&& 0xEF#8).setWidth 32) ∧
    ReadsAs 0x000000014#36 .cfgRdImr (fun s => (s.imr &&& 0xEF#8).setWidth 32) ∧
    ReadsAs 0x000000018#36 .cfgRdIen (fun _ => 0#32) ∧
    ReadsAs 0x00000001C#36 .cfgRdIds (fun _ => 0#32)

/-- Rules R118, R120, R122, R124, R126, R128, R130, R132 and R134. -/
def Obligations.CapabilityAndBaseReads : Prop :=
  ReadsAs 0x00000003C#36 .cfgRdMMasterIds (fun _ => 0x14#32) ∧
    ReadsAs 0x000000040#36 .cfgRdMAperture32b (fun s => BitVec.ofNat 32 (s.cfg.aperture .ap32b).entries) ∧
    ReadsAs 0x000000044#36 .cfgRdMAperture64kb (fun s => BitVec.ofNat 32 (s.cfg.aperture .ap64kb).entries) ∧
    ReadsAs 0x000000048#36 .cfgRdMAperture1mb (fun s => BitVec.ofNat 32 (s.cfg.aperture .ap1mb).entries) ∧
    ReadsAs 0x00000004C#36 .cfgRdMAperture512mb (fun s => BitVec.ofNat 32 (s.cfg.aperture .ap512mb).entries) ∧
    ReadsAs 0x000000050#36 .cfgRdBase32b (fun s => (s.cfg.aperture .ap32b).base) ∧
    ReadsAs 0x000000054#36 .cfgRdBase64kb (fun s => (s.cfg.aperture .ap64kb).base) ∧
    ReadsAs 0x000000058#36 .cfgRdBase1mb (fun s => (s.cfg.aperture .ap1mb).base) ∧
    ReadsAs 0x00000005C#36 .cfgRdBase512mb (fun s => (s.cfg.aperture .ap512mb).base)

/-- Rules R105, R107, R113, R119, R121, R123, R125, R127, R129, R131, R133 and R135. That these writes are ignored and
answer OK is the spec's own decision D15 (notes/assumptions/16.md). -/
def Obligations.ReadOnlyRegisterWritesIgnored : Prop :=
  WritesAs 0x100000004#36 .cfgWrErrStatus1 (fun _ s => s) ∧
    WritesAs 0x100000008#36 .cfgWrErrStatus2 (fun _ s => s) ∧
    WritesAs 0x100000014#36 .cfgWrImr (fun _ s => s) ∧
    WritesAs 0x10000003C#36 .cfgWrMMasterIds (fun _ s => s) ∧
    WritesAs 0x100000040#36 .cfgWrMAperture32b (fun _ s => s) ∧
    WritesAs 0x100000044#36 .cfgWrMAperture64kb (fun _ s => s) ∧
    WritesAs 0x100000048#36 .cfgWrMAperture1mb (fun _ s => s) ∧
    WritesAs 0x10000004C#36 .cfgWrMAperture512mb (fun _ s => s) ∧
    WritesAs 0x100000050#36 .cfgWrBase32b (fun _ s => s) ∧
    WritesAs 0x100000054#36 .cfgWrBase64kb (fun _ s => s) ∧
    WritesAs 0x100000058#36 .cfgWrBase1mb (fun _ s => s) ∧
    WritesAs 0x10000005C#36 .cfgWrBase512mb (fun _ s => s)

/-- Rule R103 with rule R101: CTRL, the four window enables, and MID_PARITY when re-validation under the new
MID_PARITY_EN finds a register of bad parity. The new enable is the spec's own decision D31 (notes/assumptions/17.md), the
bit that re-validation sets its decision D9 (notes/assumptions/14.md). -/
def Obligations.CtrlWriteEnablesAndRevalidates : Prop :=
  WritesAs 0x100000000#36 .cfgWrCtrl fun data s =>
    { s with
      ctrl := data.extractLsb' 0 3
      winEn := ⟨data.getLsbD 0, data.getLsbD 0, data.getLsbD 0, data.getLsbD 0⟩
      isr :=
        if data.getLsbD 1 = true ∧ s.cfg.revalidateSetsIsr = true ∧ ∃ i : Fin 20, midParityOk s.mid[i] = false then
          s.isr ||| 0x08#8
        else s.isr }

/-- Rules R109, R137 and R139. POISON_WRITABLE is the spec's decision D16 (notes/assumptions/14.md), and that ECO and
RAM_ADJ are plain storage its decision D17 (notes/assumptions/29.md). -/
def Obligations.StorageRegisterWrites : Prop :=
  (WritesAs 0x10000000C#36 .cfgWrPoison fun data s =>
      { s with poison := if s.cfg.poisonWritable = true then data.extractLsb' 0 20 else s.poison }) ∧
    (WritesAs 0x1000000FC#36 .cfgWrEco fun data s => { s with eco := data }) ∧
    WritesAs 0x1000001FC#36 .cfgWrRamAdj fun data s => { s with ramAdj := data }

/-- Rules R111, R115 and R117. -/
def Obligations.InterruptRegisterWrites : Prop :=
  (WritesAs 0x100000010#36 .cfgWrIsr fun data s =>
      { s with isr := s.isr &&& ~~~(data.extractLsb' 0 8 &&& 0xEF#8) }) ∧
    (WritesAs 0x100000018#36 .cfgWrIen fun data s =>
      { s with imr := s.imr &&& ~~~(data.extractLsb' 0 8 &&& 0xEF#8) }) ∧
    WritesAs 0x10000001C#36 .cfgWrIds fun data s =>
      { s with imr := s.imr ||| (data.extractLsb' 0 8 &&& 0xEF#8) }

/-- Writing IDS then IEN with the same bits returns IMR to its value before the IDS write, for bits that were clear
before it (rule R117). -/
def Obligations.IdsThenIenRestoresClearBits : Prop :=
  ∀ (s t u : State) (data : Word), exec (.cfgWrIds true data) s = .next t → exec (.cfgWrIen true data) t = .next u →
    (∀ n, n < 8 → data.getLsbD n = true → s.imr.getLsbD n = false) → u.imr = s.imr

/-- Rule R140's `mid_read` at every index (rules R150 to R169). -/
def Obligations.MasterIdRegisterReads : Prop :=
  ∀ i : Fin 20, ReadsAs (0x000000100#36 + BitVec.ofNat 36 (4 * i)) (.midRd i) (fun s => s.mid[i])

/-- Rule R140's `mid_write` at every index (rules R170 to R189): the stored bits, and MID_PARITY where rule R101
records a bad parity of the new value. That a bad parity sets MID_PARITY is the spec's decision D9
(notes/assumptions/14.md), and that reserved bits ignore writes its decision D14 (notes/assumptions/16.md). -/
def Obligations.MasterIdRegisterWrites : Prop :=
  ∀ i : Fin 20, WritesAs (0x100000100#36 + BitVec.ofNat 36 (4 * i)) (.midWr i) fun data s =>
    { s with
      mid := s.mid.set i (data &&& 0xC3FF03FF#32)
      isr :=
        if s.ctrl.getLsbD 1 = true ∧ s.cfg.revalidateSetsIsr = true ∧
            midParityOk (data &&& 0xC3FF03FF#32) = false then s.isr ||| 0x08#8
        else s.isr }

/-- A non-secure access to a defined register, the permission-RAM window or an out-of-range offset reads 0 or is
dropped, and changes nothing but the answer (rule R100). That out-of-range accesses have no effect is the spec's
decision D11 (notes/assumptions/15.md), and that the response is OK its decision D36 (notes/assumptions/16.md). -/
def Obligations.NonSecureConfigAccessIsDropped : Prop :=
  ∀ (i : Instr) (w : Bool) (s : State), i.kind = .defined w false ∨ i.kind = .outOfRange w false →
    exec i s = .next { s with answer := if w = true then .write .ok else .read 0#64 .ok }

/-- An access to a hole sets INV_APB and answers 0 or OK (rules R141, R142). That it does so whatever the secure
attribute is the spec's own decision D10 (notes/assumptions/15.md, DESIGN CHOICE), and that the response is OK its
decision D36 (notes/assumptions/16.md, DESIGN CHOICE). -/
def Obligations.HoleAccessSetsInvApb : Prop :=
  ∀ (s : State) (off : Word) (secure : Bool) (data : Word),
    exec (.cfgRdHole off secure) s = .next { s with isr := s.isr ||| 0x01#8, answer := .read 0#64 .ok } ∧
      exec (.cfgWrHole off secure data) s = .next { s with isr := s.isr ||| 0x01#8, answer := .write .ok }

/-- An access to an out-of-range offset, below the permission-RAM window or past the RAM array of the instance, answers
0 or OK and changes nothing, secure or not (rules R88, R143, R144; the spec's decisions D11 and D36;
notes/assumptions/15.md, 16.md, 27.md). -/
def Obligations.OutOfRangeAccessHasNoEffect : Prop :=
  ∀ (s : State) (off : Word) (secure : Bool) (data : Word),
    off.toNat < 0x1000 ∨ 0x1000 + 4 * s.cfg.nrApl ≤ off.toNat →
    exec (.cfgRdOor off secure) s = .next { s with answer := .read 0#64 .ok } ∧
      exec (.cfgWrOor off secure data) s = .next { s with answer := .write .ok }

/-- "Every configuration access completes with response OK" (rule R100), a sentence that the spec marks as its own
decision D36 (notes/assumptions/16.md, DESIGN CHOICE). -/
def Obligations.ConfigAccessCompletesOk : Prop :=
  ∀ (i : Instr) (s : State), (∀ b, i.kind ≠ .aperture b) → i ≠ .reset →
    ∃ t : State, exec i s = .next t ∧ (t.answer = .write .ok ∨ ∃ v, t.answer = .read v .ok)

/-! ### The permission RAM -/

/-- Rule R190 in the four sub-blocks of rules R192 to R195. -/
def Obligations.PermissionRamReads : Prop :=
  (∀ k : BitVec 8, ReadsEntry (0x000001000#36 + (k.setWidth 36 <<< 2)) (.cfgRdApl64kb k) k.toNat) ∧
    (∀ k : BitVec 7, ReadsEntry (0x000001400#36 + (k.setWidth 36 <<< 2)) (.cfgRdApl32b k) (256 + k.toNat)) ∧
    (∀ k : BitVec 4, ReadsEntry (0x000001600#36 + (k.setWidth 36 <<< 2)) (.cfgRdApl1mb k) (384 + k.toNat)) ∧
    ReadsEntry 0x000001640#36 .cfgRdApl512mb 400

/-- Rule R191 in the four sub-blocks of rules R196 to R199, with their keys. That all 32 bits are stored, with no
parity check, is the spec's decision D24 (notes/assumptions/29.md). -/
def Obligations.PermissionRamWrites : Prop :=
  (∀ k : BitVec 8, WritesEntry (0x100001000#36 + (k.setWidth 36 <<< 2)) (.cfgWrApl64kb k) k.toNat) ∧
    (∀ k : BitVec 7, WritesEntry (0x100001400#36 + (k.setWidth 36 <<< 2)) (.cfgWrApl32b k) (256 + k.toNat)) ∧
    (∀ k : BitVec 4, WritesEntry (0x100001600#36 + (k.setWidth 36 <<< 2)) (.cfgWrApl1mb k) (384 + k.toNat)) ∧
    WritesEntry 0x100001640#36 .cfgWrApl512mb 400

/-- Secure writes to any two different permission-RAM entries, in one sub-block or in two, run in either order and lead to
the same state (rules R28, R191). -/
def Obligations.PermissionRamWritesCommute : Prop :=
  ∀ (s : State) (j k : Nat) (x y : Word), s.ram.wf = true → j ≠ k → 0x1000 + 4 * j < 2 ^ 32 → 0x1000 + 4 * k < 2 ^ 32 →
    ∃ t u v : State, exec (.wrEntry j true x) s = .next t ∧ exec (.wrEntry k true y) t = .next u ∧
      exec (.wrEntry k true y) s = .next v ∧ exec (.wrEntry j true x) v = .next u

/-- The RAM array has `NR_APL` words (rules R6, R28), whatever number of them the table's rows are written for: an entry of
a sub-block that the instance does not have is out of range (rule R88), and an entry past the sub-blocks that it has is read
and written at its offset. That an instance with another NR_APL behaves so is the model's reading
(notes/assumptions/27.md). -/
def Obligations.PermissionRamHasNrAplWords : Prop :=
  (∀ (s : State) (k : Nat) (i : Bool → Instr) (w : Bool → Word → Instr) (secure : Bool) (data : Word),
      ((∃ j : BitVec 8, k = j.toNat ∧ i = .cfgRdApl64kb j ∧ w = .cfgWrApl64kb j) ∨
        (∃ j : BitVec 7, k = 256 + j.toNat ∧ i = .cfgRdApl32b j ∧ w = .cfgWrApl32b j) ∨
        (∃ j : BitVec 4, k = 384 + j.toNat ∧ i = .cfgRdApl1mb j ∧ w = .cfgWrApl1mb j) ∨
        (k = 400 ∧ i = .cfgRdApl512mb ∧ w = .cfgWrApl512mb)) →
      s.cfg.nrApl ≤ k →
      exec (i secure) s = .next { s with answer := .read 0#64 .ok } ∧
        exec (w secure data) s = .next { s with answer := .write .ok }) ∧
    ∀ (s : State) (k : Nat) (off : Word) (data : Word), off.toNat = 0x1000 + 4 * k → 401 ≤ k → k < s.cfg.nrApl →
      readsEntry (.cfgRdOor off true) k s ∧ (s.ram.wf = true → storesEntry (.cfgWrOor off true data) k data s)

/-! ### The permission check -/

/-- Rule R82: the covered bits together with MIDP hold an even number of ones. This is the spec's own reading of the source,
and the bit positions are presumed (notes/assumptions/3.md). -/
def Obligations.MidParityIsEvenParity : Prop :=
  ∀ v : Word, midParityOk v = true ↔ ((List.range 32).countP fun n => (v &&& 0xC3FF03FF#32).getLsbD n) % 2 = 0

/-- Rule R84: each of the four lanes together with its parity bit holds an even number of ones. Which bit guards which lane
is the spec's decision D7, from general knowledge (notes/assumptions/3.md). -/
def Obligations.AplParityIsFourEvenLanes : Prop :=
  ∀ e : Word, aplParityOk e = true ↔
    ([0, 1, 2, 3, 4, 28].countP fun n => e.getLsbD n) % 2 = 0 ∧
      ([5, 6, 7, 8, 9, 29].countP fun n => e.getLsbD n) % 2 = 0 ∧
      ([10, 11, 12, 13, 14, 30].countP fun n => e.getLsbD n) % 2 = 0 ∧
      ([15, 16, 17, 18, 19, 27, 31].countP fun n => e.getLsbD n) % 2 = 0

/-- The check authorizes exactly when the entry does not fail its parity and some slot authorizes (rules R203, R204,
R209). The places of the fields are presumed (notes/assumptions/3.md). -/
def Obligations.CheckAuthorizesIffSomeSlotAdmits : Prop :=
  ∀ (s : State) (e : Word) (id : BitVec 10) (w secure : Bool),
    (s.checkPermission e id w secure).ok = true ↔
      ¬s.entryFails e ∧ ∃ i : Fin 20, s.slotAdmits e id w secure i

/-- The check sets exactly the ISR bits that rules R204, R205, R207, R208 and R210 name (rules R203, R246). That the
bits of lower slots stay set when a higher slot authorizes is the spec's decision D29 (notes/assumptions/17.md), and
the places of the bits are presumed (notes/assumptions/3.md). -/
def Obligations.CheckSetsExactlyTheNamedBits : Prop :=
  ∀ (s : State) (e : Word) (id : BitVec 10) (w secure : Bool),
    (s.checkPermission e id w secure).isr = s.isrAfterCheck e id w secure

/-- "Every rejected aperture transaction sets at least one of codes 1, 2, 3, 6 and 7" (rule R241): the check's answer and
the bits it adds do not depend on ISR before it, and the bits a rejection adds hold one of those codes. -/
def Obligations.RejectionRecordsACause : Prop :=
  ∀ (s : State) (e : Word) (id : BitVec 10) (w secure : Bool),
    let added := ({ s with isr := 0#8 } : State).checkPermission e id w secure
    (s.checkPermission e id w secure).ok = added.ok ∧
      (s.checkPermission e id w secure).isr = s.isr ||| added.isr ∧
      (added.ok = false → added.isr &&& 0xCE#8 ≠ 0#8)

/-- "Because `mask` < `entries` for every row of rule R78, k always lies in the aperture's RAM range" (rule R85, an
inference it marks as derived from rule R78), for a permission RAM of any size. -/
def Obligations.AplIndexStaysInAperture : Prop :=
  ∀ (n : Nat) (d : ApertureDesc) (addr : Word), d.wf n = true →
    aplIndex d addr = d.ramBase + (addr.toNat / 2 ^ d.shift &&& d.mask.toNat) ∧
      d.ramBase ≤ aplIndex d addr ∧ aplIndex d addr < d.ramBase + d.entries ∧ aplIndex d addr < n

/-- Rule R93: the low 12 bits of the address are kept and the upper bits are the poison base. -/
def Obligations.PoisonAddressKeepsLowBits : Prop :=
  ∀ (base : BitVec 20) (addr : Word),
    (poisonAddress base addr).toNat = base.toNat * 4096 + addr.toNat % 4096

/-! ### Aperture accesses -/

/-- `aperture_access` whole (rule R200 with rules R202 to R217): an admitted access through an enabled window always
completes; ISR gets exactly the bits of the check; an authorized access goes to its own address, a rejected one to the
poison address, and the first fault is latched exactly when no blocking bit was pending before the check (decision D8;
notes/assumptions/14.md). What the downstream answers is a free value of the model (notes/assumptions/6.md). That a
rejected access carries the requester's master id and secure attribute is the model's choice (notes/assumptions/28.md).
The spec's decisions D19, D25, D29 and D35 are logged in notes/assumptions/11.md, 17.md and 29.md. -/
def Obligations.ApertureAccessForwardsOrPoisons : Prop :=
  ∀ (s : State) (a : Aperture) (off : Word) (size : Nat) (access : Access) (masterId : Word) (secure : Bool),
    s.cfg.wf = true → apertureFits (s.cfg.aperture a) off size = true → s.winEn.get a = true →
    exec (.ap a off size access masterId secure) s = .next
      (let e := s.entryFor a off
        let id := masterId.extractLsb' 0 10
        let addr := s.addressOf a off
        let isr := s.isrAfterCheck e id access.isWrite secure
        if s.authorized e id access.isWrite secure then
          { s with
            isr := isr
            downstream := s.downstream ++ [⟨addr, size, access, masterId, secure⟩]
            draws := s.draws + 1
            answer := s.downAnswer addr size access }
        else
          let target := s.poison ++ addr.extractLsb' 0 12
          { s with
            isr := if s.latchFree then isr ||| 0x20#8 else isr
            errStatus1 := if s.latchFree then addr.extractLsb' 12 20 else s.errStatus1
            errStatus2 := if s.latchFree then id else s.errStatus2
            downstream := s.downstream ++ [⟨target, size, access, masterId, secure⟩]
            draws := s.draws + 1
            answer := s.downAnswer target size access })

/-- A disabled window does not decode an admitted access: no state changes and no downstream access is made (rule R201),
the spec's own decision D22 (notes/assumptions/18.md). An access that is not admitted is refused
(`ApertureAdmissionIsThreeConditions`). -/
def Obligations.DisabledWindowIsNotDecoded : Prop :=
  ∀ (s : State) (a : Aperture) (off : Word) (size : Nat) (access : Access) (masterId : Word) (secure : Bool),
    apertureFits (s.cfg.aperture a) off size = true → s.winEn.get a = false →
    exec (.ap a off size access masterId secure) s = .next { s with answer := .notDecoded }

/-- The forwarding property of rule R211 as narrowed by rule R209 (decision D29; notes/assumptions/17.md) and
90_conflicts.md C4: when a slot authorizes and every lower slot is not enabled, or passes parity and does not match,
the access is forwarded and ISR is unchanged. -/
def Obligations.CleanlyAuthorizedAccessLeavesIsr : Prop :=
  ∀ (s : State) (a : Aperture) (off : Word) (size : Nat) (access : Access) (masterId : Word) (secure : Bool)
    (i : Fin 20),
    s.cfg.wf = true → apertureFits (s.cfg.aperture a) off size = true → s.winEn.get a = true →
    ¬s.entryFails (s.entryFor a off) →
    s.slotAdmits (s.entryFor a off) (masterId.extractLsb' 0 10) access.isWrite secure i →
    (∀ j : Fin 20, j < i → (s.entryFor a off).getLsbD j = false ∨
      (¬s.slotFails j ∧ ¬s.slotMatches (masterId.extractLsb' 0 10) j)) →
    exec (.ap a off size access masterId secure) s = .next
      { s with
        downstream := s.downstream ++ [⟨s.addressOf a off, size, access, masterId, secure⟩]
        draws := s.draws + 1
        answer := s.downAnswer (s.addressOf a off) size access }

/-- An entry that fails its parity rejects the access whatever the Master-ID registers and the requester are, and sets
APER_PARITY and no other bit of the check (rule R204). That the poisoned access keeps the master id and the secure
attribute is the model's choice (notes/assumptions/28.md). -/
def Obligations.BadEntryParityRejects : Prop :=
  ∀ (s t : State) (a : Aperture) (off : Word) (size : Nat) (access : Access) (masterId : Word) (secure : Bool),
    s.cfg.wf = true → apertureFits (s.cfg.aperture a) off size = true → s.winEn.get a = true →
    s.entryFails (s.entryFor a off) → exec (.ap a off size access masterId secure) s = .next t →
    t.isr = (s.isr ||| 0x80#8) ||| (if s.latchFree then 0x20#8 else 0#8) ∧
      t.downstream = s.downstream ++
        [⟨s.poison ++ (s.addressOf a off).extractLsb' 0 12, size, access, masterId, secure⟩]

/-- A non-secure access is never forwarded by an entry with TZ = 0, and APER_TZ is set when some matching slot is not a
read-only slot hit by a write (rule R208, narrowed by 90_conflicts.md C12). That the poisoned access keeps the master
id and the secure attribute is the model's choice (notes/assumptions/28.md). -/
def Obligations.NonSecureNeedsTrustZoneBit : Prop :=
  ∀ (s t : State) (a : Aperture) (off : Word) (size : Nat) (access : Access) (masterId : Word),
    s.cfg.wf = true → apertureFits (s.cfg.aperture a) off size = true → s.winEn.get a = true →
    (s.entryFor a off).getLsbD 27 = false → exec (.ap a off size access masterId false) s = .next t →
    t.downstream = s.downstream ++
        [⟨s.poison ++ (s.addressOf a off).extractLsb' 0 12, size, access, masterId, false⟩] ∧
      (¬s.entryFails (s.entryFor a off) →
        (∃ i : Fin 20, s.slotHits (s.entryFor a off) (masterId.extractLsb' 0 10) i ∧
          ¬s.slotReadOnly access.isWrite i) → t.isr.getLsbD 6 = true)

/-- "An entry with `MASK = 0` always sets MID_MISS, unless rule R204 fails it first", and rejects the access (rule
R210). That the poisoned access keeps the master id and the secure attribute is the model's choice
(notes/assumptions/28.md). -/
def Obligations.EmptyMaskMissesEveryMaster : Prop :=
  ∀ (s t : State) (a : Aperture) (off : Word) (size : Nat) (access : Access) (masterId : Word) (secure : Bool),
    s.cfg.wf = true → apertureFits (s.cfg.aperture a) off size = true → s.winEn.get a = true →
    (s.entryFor a off).extractLsb' 0 20 = 0#20 → ¬s.entryFails (s.entryFor a off) →
    exec (.ap a off size access masterId secure) s = .next t →
    t.isr = (s.isr ||| 0x02#8) ||| (if s.latchFree then 0x20#8 else 0#8) ∧
      t.downstream = s.downstream ++
        [⟨s.poison ++ (s.addressOf a off).extractLsb' 0 12, size, access, masterId, secure⟩]

/-- A slot that fails its parity never authorizes and never counts as a match: two Master-ID tables that differ only in
slots failing parity in both give the same check (rule R205). -/
def Obligations.ParityFailedSlotIsOpaque : Prop :=
  ∀ (s : State) (mids : Vector Word 20) (e : Word) (id : BitVec 10) (w secure : Bool),
    (∀ i : Fin 20, mids[i] = s.mid[i] ∨ (s.slotFails i ∧ ({ s with mid := mids } : State).slotFails i)) →
    ({ s with mid := mids } : State).checkPermission e id w secure = s.checkPermission e id w secure

/-- Only bits 9:0 of the master id take part (rule R216, decision D19; the width of the id is the model's,
notes/assumptions/11.md): two ids that agree there give the same state but for the id that is forwarded (by rule R211,
and for a poisoned access by the model's choice, notes/assumptions/28.md). That the answers agree too is the model's,
whose downstream does not look at the id (notes/assumptions/6.md). -/
def Obligations.MasterIdHighBitsDoNotMatter : Prop :=
  ∀ (s t : State) (a : Aperture) (off : Word) (size : Nat) (access : Access) (m m' : Word) (secure : Bool),
    m.extractLsb' 0 10 = m'.extractLsb' 0 10 → exec (.ap a off size access m secure) s = .next t →
    ∃ t' : State, exec (.ap a off size access m' secure) s = .next t' ∧ t' = { t with downstream := t'.downstream } ∧
      t'.downstream.map (fun x => (x.addr, x.size, x.access)) = t.downstream.map (fun x => (x.addr, x.size, x.access))

/-- "An aperture transaction never clears an ISR bit and never writes any register other than ISR, ERR_STATUS1 and
ERR_STATUS2. It never writes the permission RAM or a Master-ID register." (rule R219). -/
def Obligations.ApertureAccessFrame : Prop :=
  ∀ (s t : State) (a : Aperture) (off : Word) (size : Nat) (access : Access) (masterId : Word) (secure : Bool),
    exec (.ap a off size access masterId secure) s = .next t →
    s.isr &&& ~~~t.isr = 0#8 ∧ t.ctrl = s.ctrl ∧ t.poison = s.poison ∧ t.imr = s.imr ∧ t.eco = s.eco ∧
      t.ramAdj = s.ramAdj ∧ t.mid = s.mid ∧ t.winEn = s.winEn ∧ t.cfg = s.cfg ∧ t.ram = s.ram ∧
      ∀ adr, readByte t.ram adr = readByte s.ram adr

/-- The firewall makes a downstream access only for an aperture access, and then exactly one, with the transaction's
size, direction and payload (rules R53, R211, R214) and its master id and secure attribute: rule R211 keeps those of an
authorized access, and that a poisoned one keeps them too is the model's choice (notes/assumptions/28.md). -/
def Obligations.OneDownstreamAccessPerForward : Prop :=
  (∀ (i : Instr) (s t : State), (∀ b, i.kind ≠ .aperture b) → exec i s = .next t → t.downstream = s.downstream) ∧
    ∀ (s t : State) (a : Aperture) (off : Word) (size : Nat) (access : Access) (masterId : Word) (secure : Bool),
      s.winEn.get a = true → exec (.ap a off size access masterId secure) s = .next t →
      t.downstream = s.downstream ++ [⟨s.addressOf a off, size, access, masterId, secure⟩] ∨
        t.downstream = s.downstream ++
          [⟨s.poison ++ (s.addressOf a off).extractLsb' 0 12, size, access, masterId, secure⟩]

/-! ### Faults, interrupts and privilege -/

/-- The interrupt line is high exactly when one of the seven sources is pending and not masked (rules R31, R244), and it
is low after reset (rule R31). That it is a function of the state at every moment is the spec's own decision D18
(notes/assumptions/19.md). -/
def Obligations.IrqIsSomePendingUnmaskedSource : Prop :=
  (∀ s : State, s.irq = true ↔
      ∃ n ∈ [0, 1, 2, 3, 5, 6, 7], s.isr.getLsbD n = true ∧ s.imr.getLsbD n = false) ∧
    ∀ (c : Config) (draw : Nat), (State.afterReset c draw).irq = false

/-- ISR bits are sticky (rule R242): only a secure write of 1 to the bit, or reset, clears it, and setting a bit that is
set changes nothing. -/
def Obligations.IsrBitsAreSticky : Prop :=
  (∀ (i : Instr) (s t : State) (n : Nat), exec i s = .next t → s.isr.getLsbD n = true → t.isr.getLsbD n = false →
      i = .reset ∨ ∃ data : Word, i = .cfgWrIsr true data ∧ data.getLsbD n = true) ∧
    ∀ (s : State) (b : Cause), s.isr.getLsbD b.code = true → s.setIsr b = s

/-- The first fault is kept: while a bit of LATCH_BLOCK_MASK (decision D8; notes/assumptions/14.md) is pending, no
operation but an ISR write or reset changes ERR_STATUS1 or ERR_STATUS2 or ends the pending (rules R212, R247, R250). -/
def Obligations.FirstFaultIsKept : Prop :=
  ∀ (i : Instr) (s t : State), s.isr &&& s.cfg.latchBlockMask ≠ 0#8 → (∀ data, i ≠ .cfgWrIsr true data) →
    i ≠ .reset → exec i s = .next t →
    t.errStatus1 = s.errStatus1 ∧ t.errStatus2 = s.errStatus2 ∧ t.isr &&& t.cfg.latchBlockMask ≠ 0#8

/-- The acknowledgement (rule R249): it keeps ERR_STATUS1/2, and re-arms the latch when no bit of LATCH_BLOCK_MASK
(decision D8; notes/assumptions/14.md) remains, so that the next rejected access is latched. -/
def Obligations.AcknowledgeRearmsTheLatch : Prop :=
  ∀ (s t u : State) (data : Word) (a : Aperture) (off : Word) (size : Nat) (access : Access) (masterId : Word)
    (secure : Bool),
    exec (.cfgWrIsr true data) s = .next t → t.errStatus1 = s.errStatus1 ∧ t.errStatus2 = s.errStatus2 ∧
      (s.isr &&& ~~~(data.extractLsb' 0 8 &&& 0xEF#8) &&& s.cfg.latchBlockMask = 0#8 → s.cfg.wf = true →
        apertureFits (s.cfg.aperture a) off size = true → s.winEn.get a = true →
        ¬t.authorized (s.entryFor a off) (masterId.extractLsb' 0 10) access.isWrite secure →
        exec (.ap a off size access masterId secure) t = .next u →
        u.isr.getLsbD 5 = true ∧ u.errStatus1 = (s.addressOf a off).extractLsb' 12 20 ∧
          u.errStatus2 = masterId.extractLsb' 0 10)

/-- A non-secure delivery changes no register but ISR and the error pair, and neither the Master-ID table nor the
permission RAM nor a window enable (rule R252). -/
def Obligations.NonSecureDeliveryChangesNoProtection : Prop :=
  ∀ (i : Instr) (s t : State), i.kind.secure = some false → exec i s = .next t →
    t.ctrl = s.ctrl ∧ t.poison = s.poison ∧ t.imr = s.imr ∧ t.eco = s.eco ∧ t.ramAdj = s.ramAdj ∧ t.mid = s.mid ∧
      t.ram = s.ram ∧ t.winEn = s.winEn

/-- A non-secure configuration access learns nothing: its answer is the same in every state (rule R252; the response is
OK by decision D36, notes/assumptions/16.md). -/
def Obligations.NonSecureConfigAnswerIsConstant : Prop :=
  ∀ (i : Instr) (s s' t t' : State), i.kind.secure = some false → (∀ b, i.kind ≠ .aperture b) →
    exec i s = .next t → exec i s' = .next t' → t.answer = t'.answer

/-- Each control and status register changes only by the operations its rule names (rules R14 to R19, R24, R27). ISR
gains a bit only by a hole access (secure or not, decision D10; notes/assumptions/15.md), a secure CTRL or Master-ID
write (decision D9; notes/assumptions/14.md), or an aperture access, and changes otherwise only by a secure ISR write
(rules R18, R34, R241, R242). -/
def Obligations.RegistersChangeOnlyAsTheirRulesSay : Prop :=
  ∀ (i : Instr) (s t : State), i ≠ .reset → exec i s = .next t →
    (t.ctrl ≠ s.ctrl → ∃ d, i = .cfgWrCtrl true d) ∧
      (t.errStatus1 ≠ s.errStatus1 ∨ t.errStatus2 ≠ s.errStatus2 → ∃ b, i.kind = .aperture b) ∧
      (t.poison ≠ s.poison → ∃ d, i = .cfgWrPoison true d) ∧
      ((∃ n, s.isr.getLsbD n = false ∧ t.isr.getLsbD n = true) →
        (∃ w b, i.kind = .hole w b) ∨ (∃ d, i = .cfgWrCtrl true d) ∨ (∃ n d, i = .midWr n true d) ∨
          ∃ b, i.kind = .aperture b) ∧
      ((∃ n, s.isr.getLsbD n = true ∧ t.isr.getLsbD n = false) → ∃ d, i = .cfgWrIsr true d) ∧
      (t.imr ≠ s.imr → (∃ d, i = .cfgWrIen true d) ∨ ∃ d, i = .cfgWrIds true d) ∧
      (t.eco ≠ s.eco → ∃ d, i = .cfgWrEco true d) ∧
      (t.ramAdj ≠ s.ramAdj → ∃ d, i = .cfgWrRamAdj true d)

/-- The tables and the window enables change only by the operations their rules name (rules R25, R28, R30). The last
operation named, an out-of-range write at an offset from 0x1000 to the end of the RAM array, is the model's
(notes/assumptions/27.md). A delivery decodes to such a write only at an offset from 0x1644 on, so that it writes the
words an instance has past the 401 of the table; of the term itself the statement says no more than that its offset
lies in the array. -/
def Obligations.TablesChangeOnlyAsTheirRulesSay : Prop :=
  ∀ (i : Instr) (s t : State), i ≠ .reset → exec i s = .next t →
    (t.mid ≠ s.mid → ∃ n d, i = .midWr n true d) ∧
      (t.winEn ≠ s.winEn → ∃ d, i = .cfgWrCtrl true d) ∧
      (t.ram ≠ s.ram → (∃ k d, i = .cfgWrApl64kb k true d) ∨ (∃ k d, i = .cfgWrApl32b k true d) ∨
        (∃ k d, i = .cfgWrApl1mb k true d) ∨ (∃ d, i = .cfgWrApl512mb true d) ∨
        ∃ off d, i = .cfgWrOor off true d ∧ 0x1000 ≤ off.toNat ∧ off.toNat < 0x1000 + 4 * s.cfg.nrApl)

/-! ### Reset -/

/-- Reset sets every piece of the block's state (rule R270) from the instance's parameters, with every permission-RAM
byte 0, every window disabled and the interrupt line low (rules R271, R272), and makes no downstream access (rule
R273). The zeros of CTRL, ERR_STATUS1, ERR_STATUS2, ISR and ECO are the spec's decisions D4 and D17
(notes/assumptions/4.md, DESIGN CHOICE). RAM_ADJ is a free value, and that every reset draws a new one is the model's
(notes/assumptions/5.md). The masking of MID_RESET and IMR_RESET to the stored bits, and what stays of the model's own
fields, are the model's (notes/assumptions/20.md, 23.md). -/
def Obligations.ResetSetsEveryRegister : Prop :=
  ∀ s : State, ∃ t : State, exec .reset s = .next t ∧
    t.ctrl = 0#3 ∧ t.errStatus1 = 0#20 ∧ t.errStatus2 = 0#10 ∧ t.poison = s.cfg.poisonReset ∧ t.isr = 0#8 ∧
    t.imr = s.cfg.imrReset &&& 0xEF#8 ∧ t.eco = 0#32 ∧ t.ramAdj = Config.ramAdjReset s.draws ∧
    (∀ i : Fin 20, t.mid[i] = if h : i.val < 4 then s.cfg.midReset[i.val] &&& 0xC3FF03FF#32 else 0#32) ∧
    (∀ adr, readByte t.ram adr = 0#8) ∧ t.ram.wf = true ∧ (∀ a, t.winEn.get a = false) ∧ t.irq = false ∧
    t.cfg = s.cfg ∧ t.inbox = s.inbox ∧ t.downstream = s.downstream ∧ t.answer = .none ∧ t.draws = s.draws + 1

/-- The default instance after reset holds the values that rules R14 to R28 name. The zeros of CTRL, ERR_STATUS1,
ERR_STATUS2, ISR and ECO are the spec's decisions D4 and D17 (notes/assumptions/4.md, DESIGN CHOICE); POISON, IMR and
Master-ID registers 0 to 3 hold the default parameters, which the spec takes from general knowledge of the family
(notes/assumptions/2.md, PRESUMED). -/
def Obligations.DefaultResetValues : Prop :=
  State.reset.ctrl = 0#3 ∧ State.reset.errStatus1 = 0#20 ∧ State.reset.errStatus2 = 0#10 ∧
    State.reset.poison = 0xFF9C0#20 ∧ State.reset.isr = 0#8 ∧ State.reset.imr = 0xEF#8 ∧ State.reset.eco = 0#32 ∧
    State.reset.mid = #v[0x83FF0040#32, 0x03F00000#32, 0x83F00010#32, 0x83C00080#32, 0#32, 0#32, 0#32, 0#32, 0#32,
      0#32, 0#32, 0#32, 0#32, 0#32, 0#32, 0#32, 0#32, 0#32, 0#32, 0#32] ∧
    State.reset.ram = [] ∧ State.reset.winEn = ⟨false, false, false, false⟩ ∧ State.reset.irq = false ∧
    (∀ i : Fin 20, midParityOk State.reset.mid[i] = true)
end

