-- ==== Sys2Proof/Laws/Memory.lean ====
section
/-! SUPPORT. The permission RAM's laws: what a byte and a word read after a write, and that every write keeps the
canonical form and the window. -/

namespace Sys2Proof.Machine

open Sys2Proof

/-- A canonical memory from `lo` on reads 0 below `lo`. -/
theorem readByte_of_wfFrom_lt {m : Memory} {lo a : Nat} (h : Memory.wfFrom lo m = true) (ha : a < lo) :
    readByte m a = 0#8 := by
  induction m generalizing lo with
  | nil => rfl
  | cons c rest ih =>
    obtain ⟨b, v⟩ := c
    simp only [Memory.wfFrom, Bool.and_eq_true, decide_eq_true_eq] at h
    simp only [readByte, if_neg (show ¬b = a by omega)]
    exact ih h.2 (by omega)

/-- A canonical memory from `lo` on is canonical from any lower bound on. -/
theorem wfFrom_mono {m : Memory} {lo lo' : Nat} (h : Memory.wfFrom lo m = true) (hl : lo' ≤ lo) :
    Memory.wfFrom lo' m = true := by
  cases m with
  | nil => rfl
  | cons c rest =>
    obtain ⟨b, v⟩ := c
    simp only [Memory.wfFrom, Bool.and_eq_true, decide_eq_true_eq] at h ⊢
    exact ⟨⟨by omega, h.1.2⟩, h.2⟩

/-- A written byte reads back. -/
theorem readByte_writeByte_same {m : Memory} {lo a : Nat} {v : Byte} (h : Memory.wfFrom lo m = true) :
    readByte (writeByte m a v) a = v := by
  induction m generalizing lo with
  | nil => by_cases hv : v = 0#8 <;> simp [writeByte, readByte, hv]
  | cons c rest ih =>
    obtain ⟨b, w⟩ := c
    simp only [Memory.wfFrom, Bool.and_eq_true, decide_eq_true_eq] at h
    have below : ∀ x, x < b + 1 → readByte rest x = 0#8 := fun x hx => readByte_of_wfFrom_lt h.2 hx
    by_cases h1 : a < b
    · by_cases hv : v = 0#8 <;> simp [writeByte, h1, hv, readByte, show ¬b = a by omega, below a (by omega)]
    · by_cases h2 : a = b
      · subst h2
        by_cases hv : v = 0#8 <;> simp [writeByte, hv, readByte, below a (by omega)]
      · simp [writeByte, h1, h2, readByte, show ¬b = a by omega, ih h.2]

/-- A byte write leaves every other byte alone. -/
theorem readByte_writeByte_other {m : Memory} {lo a x : Nat} {v : Byte} (h : Memory.wfFrom lo m = true)
    (hx : x ≠ a) : readByte (writeByte m a v) x = readByte m x := by
  induction m generalizing lo with
  | nil => by_cases hv : v = 0#8 <;> simp [writeByte, readByte, hv, Ne.symm hx]
  | cons c rest ih =>
    obtain ⟨b, w⟩ := c
    simp only [Memory.wfFrom, Bool.and_eq_true, decide_eq_true_eq] at h
    have below : ∀ y, y < b + 1 → readByte rest y = 0#8 := fun y hy => readByte_of_wfFrom_lt h.2 hy
    by_cases h1 : a < b
    · by_cases hv : v = 0#8 <;> simp [writeByte, h1, hv, readByte, Ne.symm hx]
    · by_cases h2 : a = b
      · subst h2
        by_cases hv : v = 0#8 <;> simp [writeByte, hv, readByte, Ne.symm hx]
      · simp [writeByte, h1, h2, readByte, ih h.2]

/-- A byte write at or above `lo` keeps the canonical form from `lo` on. -/
theorem wfFrom_writeByte {m : Memory} {lo a : Nat} {v : Byte} (h : Memory.wfFrom lo m = true) (ha : lo ≤ a) :
    Memory.wfFrom lo (writeByte m a v) = true := by
  induction m generalizing lo with
  | nil => by_cases hv : v = 0#8 <;> simp [writeByte, Memory.wfFrom, hv, ha]
  | cons c rest ih =>
    obtain ⟨b, w⟩ := c
    have h' := h
    simp only [Memory.wfFrom, Bool.and_eq_true, decide_eq_true_eq, bne_iff_ne] at h
    obtain ⟨⟨hb, hw⟩, hr⟩ := h
    by_cases h1 : a < b
    · by_cases hv : v = 0#8
      · simpa [writeByte, h1, hv] using h'
      · simp [writeByte, h1, hv, Memory.wfFrom, ha, hw, hr, show a + 1 ≤ b by omega]
    · by_cases h2 : a = b
      · subst h2
        by_cases hv : v = 0#8
        · simpa [writeByte, hv] using wfFrom_mono hr (by omega)
        · simp [writeByte, hv, Memory.wfFrom, ha, hr]
      · simp [writeByte, h1, h2, Memory.wfFrom, hb, hw, ih hr (by omega)]

/-- A byte write keeps the canonical form. -/
theorem wf_writeByte {m : Memory} {a : Nat} {v : Byte} (h : m.wf = true) :
    Memory.wf (writeByte m a v) = true := wfFrom_writeByte h (Nat.zero_le a)

/-- A word write keeps the canonical form. -/
theorem wf_writeWord {m : Memory} {a : Nat} {v : Word} (h : m.wf = true) :
    Memory.wf (writeWord m a v) = true :=
  wf_writeByte (wf_writeByte (wf_writeByte (wf_writeByte h)))

/-- A word stored in an entry keeps the canonical form. -/
theorem wf_setRamWord {s : State} {k : Nat} {v : Word} (h : s.ram.wf = true) : (s.setRamWord k v).ram.wf = true :=
  wf_writeWord h

/-- The permission RAM after reset is canonical. -/
theorem wf_afterReset (c : Config) (draw : Nat) : (State.afterReset c draw).ram.wf = true := rfl

/-- A byte write inside a permission RAM of `n` words keeps every listed byte inside it. -/
theorem inWindow_writeByte {m : Memory} {n a : Nat} {v : Byte} (h : m.inWindow n = true) (hl : 0x1000 ≤ a)
    (hu : a < 0x1000 + 4 * n) : Memory.inWindow n (writeByte m a v) = true := by
  simp only [Memory.inWindow, List.all_eq_true] at h ⊢
  have mem : ∀ {l : Memory} {c : Host.Cell}, c ∈ writeByte l a v → c ∈ l ∨ c = (a, v) := by
    intro l c hc
    induction l with
    | nil => by_cases hv : v = 0#8 <;> simp_all [writeByte]
    | cons d rest ih =>
      obtain ⟨b, w⟩ := d
      simp only [writeByte] at hc
      split at hc <;> split at hc <;> (try split at hc) <;> simp_all <;> tauto
  intro c hc
  rcases mem hc with hm | rfl
  · exact h c hm
  · have bounds : ramWindowBase ≤ a ∧ a < ramWindowBase + 4 * n := ⟨hl, hu⟩
    simpa using bounds

/-- A word write of an existing entry keeps every listed byte inside the window. -/
theorem inWindow_writeWord {m : Memory} {n k : Nat} {v : Word} (h : m.inWindow n = true) (hk : k < n) :
    Memory.inWindow n (writeWord m (ramAddress k) v) = true := by
  simp only [writeWord, ramAddress, ramWindowBase]
  exact inWindow_writeByte (inWindow_writeByte (inWindow_writeByte (inWindow_writeByte h (by omega) (by omega))
    (by omega) (by omega)) (by omega) (by omega)) (by omega) (by omega)

/-- A word is its four bytes. -/
theorem word_of_bytes (v : Word) :
    v.extractLsb' 24 8 ++ (v.extractLsb' 16 8 ++ (v.extractLsb' 8 8 ++ v.extractLsb' 0 8)) = v := by
  apply BitVec.eq_of_getLsbD_eq
  intro i hi
  simp only [BitVec.getLsbD_append, BitVec.getLsbD_extractLsb']
  by_cases h1 : i < 8
  · simp [h1, show i < 16 by omega, show i < 24 by omega]
  · by_cases h2 : i < 16
    · simp [h1, h2, show i < 24 by omega, show i - 8 < 8 by omega, show 8 + (i - 8) = i by omega]
    · by_cases h3 : i < 24
      · simp [h2, h3, show i - 16 < 8 by omega, show 16 + (i - 16) = i by omega]
      · simp [h3, show i - 24 < 8 by omega, show 24 + (i - 24) = i by omega]

/-- A word write leaves every byte outside the word alone. -/
theorem readByte_writeWord_other {m : Memory} {a x : Nat} {v : Word} (h : m.wf = true) (hx : x < a ∨ a + 4 ≤ x) :
    readByte (writeWord m a v) x = readByte m x := by
  have h1 := wf_writeByte (a := a) (v := v.extractLsb' 0 8) h
  have h2 := wf_writeByte (a := a + 1) (v := v.extractLsb' 8 8) h1
  have h3 := wf_writeByte (a := a + 2) (v := v.extractLsb' 16 8) h2
  rw [writeWord, readByte_writeByte_other h3 (by omega), readByte_writeByte_other h2 (by omega),
    readByte_writeByte_other h1 (by omega), readByte_writeByte_other h (by omega)]

/-- A written word reads back. -/
theorem readWord_writeWord_same {m : Memory} {a : Nat} {v : Word} (h : m.wf = true) :
    readWord (writeWord m a v) a = v := by
  have h1 := wf_writeByte (a := a) (v := v.extractLsb' 0 8) h
  have h2 := wf_writeByte (a := a + 1) (v := v.extractLsb' 8 8) h1
  have h3 := wf_writeByte (a := a + 2) (v := v.extractLsb' 16 8) h2
  have e3 : readByte (writeWord m a v) (a + 3) = v.extractLsb' 24 8 := readByte_writeByte_same h3
  have e2 : readByte (writeWord m a v) (a + 2) = v.extractLsb' 16 8 := by
    rw [writeWord, readByte_writeByte_other h3 (by omega), readByte_writeByte_same h2]
  have e1 : readByte (writeWord m a v) (a + 1) = v.extractLsb' 8 8 := by
    rw [writeWord, readByte_writeByte_other h3 (by omega), readByte_writeByte_other h2 (by omega),
      readByte_writeByte_same h1]
  have e0 : readByte (writeWord m a v) a = v.extractLsb' 0 8 := by
    rw [writeWord, readByte_writeByte_other h3 (by omega), readByte_writeByte_other h2 (by omega),
      readByte_writeByte_other h1 (by omega), readByte_writeByte_same h]
  rw [readWord, e3, e2, e1, e0, word_of_bytes]

/-- A word write leaves every disjoint word alone. -/
theorem readWord_writeWord_other {m : Memory} {a b : Nat} {v : Word} (h : m.wf = true)
    (hb : b + 4 ≤ a ∨ a + 4 ≤ b) : readWord (writeWord m a v) b = readWord m b := by
  rw [readWord, readWord, readByte_writeWord_other h (by omega), readByte_writeWord_other h (by omega),
    readByte_writeWord_other h (by omega), readByte_writeWord_other h (by omega)]

/-- Two canonical memories that read alike are equal: the form is canonical. -/
theorem eq_of_readByte_eq {m n : Memory} {lo : Nat} (hm : Memory.wfFrom lo m = true) (hn : Memory.wfFrom lo n = true)
    (h : ∀ a, readByte m a = readByte n a) : m = n := by
  induction m generalizing lo n with
  | nil =>
    cases n with
    | nil => rfl
    | cons c rest =>
      obtain ⟨b, w⟩ := c
      simp only [Memory.wfFrom, Bool.and_eq_true, bne_iff_ne] at hn
      have := h b
      simp [readByte] at this
      exact absurd this.symm hn.1.2
  | cons c rest ih =>
    obtain ⟨b, w⟩ := c
    cases n with
    | nil =>
      simp only [Memory.wfFrom, Bool.and_eq_true, bne_iff_ne] at hm
      have := h b
      simp [readByte] at this
      exact absurd this hm.1.2
    | cons c' rest' =>
      obtain ⟨b', w'⟩ := c'
      simp only [Memory.wfFrom, Bool.and_eq_true, decide_eq_true_eq, bne_iff_ne] at hm hn
      have hbb : b = b' := by
        rcases Nat.lt_trichotomy b b' with hlt | heq | hgt
        · have := h b
          rw [readByte, if_pos rfl, readByte, if_neg (by omega), readByte_of_wfFrom_lt hn.2 (by omega)] at this
          exact absurd this hm.1.2
        · exact heq
        · have := h b'
          rw [readByte, if_neg (by omega), readByte_of_wfFrom_lt hm.2 (by omega), readByte, if_pos rfl] at this
          exact absurd this.symm hn.1.2
      subst hbb
      have hw : w = w' := by simpa [readByte] using h b
      subst hw
      have : rest = rest' := by
        apply ih hm.2 hn.2
        intro a
        by_cases hab : b = a
        · subst hab
          rw [readByte_of_wfFrom_lt hm.2 (by omega), readByte_of_wfFrom_lt hn.2 (by omega)]
        · have := h a
          simpa [readByte, hab] using this
      rw [this]

/-- An entry just written reads back, and every other entry as before. -/
theorem ramWord_setRamWord (s : State) (j k : Nat) (v : Word) (h : s.ram.wf = true) :
    (s.setRamWord k v).ramWord j =
      if j < s.cfg.nrApl then some (if j = k then v else readWord s.ram (ramAddress j)) else none := by
  simp only [State.ramWord, State.setRamWord]
  by_cases hj : j < s.cfg.nrApl
  · simp only [hj, if_true]
    by_cases hjk : j = k
    · subst hjk
      simp [readWord_writeWord_same h]
    · simp only [hjk, if_false]
      rw [readWord_writeWord_other h]
      simp only [ramAddress]
      omega
  · simp [hj]

end Sys2Proof.Machine
end

