-- ==== Sys2Proof/Laws/State.lean ====
section
/-! SUPPORT. What each named update of the state does to each field, true by unfolding. -/

namespace Sys2Proof.Machine

open Sys2Proof

@[simp] theorem State.setIsr_ctrl (s : State) (b : Cause) :
    (s.setIsr b).ctrl = s.ctrl := rfl

@[simp] theorem State.setIsr_errStatus1 (s : State) (b : Cause) :
    (s.setIsr b).errStatus1 = s.errStatus1 := rfl

@[simp] theorem State.setIsr_errStatus2 (s : State) (b : Cause) :
    (s.setIsr b).errStatus2 = s.errStatus2 := rfl

@[simp] theorem State.setIsr_poison (s : State) (b : Cause) :
    (s.setIsr b).poison = s.poison := rfl

@[simp] theorem State.setIsr_isr (s : State) (b : Cause) :
    (s.setIsr b).isr = s.isr ||| b.bit := rfl

@[simp] theorem State.setIsr_imr (s : State) (b : Cause) :
    (s.setIsr b).imr = s.imr := rfl

@[simp] theorem State.setIsr_eco (s : State) (b : Cause) :
    (s.setIsr b).eco = s.eco := rfl

@[simp] theorem State.setIsr_ramAdj (s : State) (b : Cause) :
    (s.setIsr b).ramAdj = s.ramAdj := rfl

@[simp] theorem State.setIsr_mid (s : State) (b : Cause) :
    (s.setIsr b).mid = s.mid := rfl

@[simp] theorem State.setIsr_ram (s : State) (b : Cause) :
    (s.setIsr b).ram = s.ram := rfl

@[simp] theorem State.setIsr_winEn (s : State) (b : Cause) :
    (s.setIsr b).winEn = s.winEn := rfl

@[simp] theorem State.setIsr_cfg (s : State) (b : Cause) :
    (s.setIsr b).cfg = s.cfg := rfl

@[simp] theorem State.setIsr_inbox (s : State) (b : Cause) :
    (s.setIsr b).inbox = s.inbox := rfl

@[simp] theorem State.setIsr_answer (s : State) (b : Cause) :
    (s.setIsr b).answer = s.answer := rfl

@[simp] theorem State.setIsr_downstream (s : State) (b : Cause) :
    (s.setIsr b).downstream = s.downstream := rfl

@[simp] theorem State.setIsr_draws (s : State) (b : Cause) :
    (s.setIsr b).draws = s.draws := rfl

@[simp] theorem State.setRamWord_ctrl (s : State) (k : Nat) (v : Word) :
    (s.setRamWord k v).ctrl = s.ctrl := rfl

@[simp] theorem State.setRamWord_errStatus1 (s : State) (k : Nat) (v : Word) :
    (s.setRamWord k v).errStatus1 = s.errStatus1 := rfl

@[simp] theorem State.setRamWord_errStatus2 (s : State) (k : Nat) (v : Word) :
    (s.setRamWord k v).errStatus2 = s.errStatus2 := rfl

@[simp] theorem State.setRamWord_poison (s : State) (k : Nat) (v : Word) :
    (s.setRamWord k v).poison = s.poison := rfl

@[simp] theorem State.setRamWord_isr (s : State) (k : Nat) (v : Word) :
    (s.setRamWord k v).isr = s.isr := rfl

@[simp] theorem State.setRamWord_imr (s : State) (k : Nat) (v : Word) :
    (s.setRamWord k v).imr = s.imr := rfl

@[simp] theorem State.setRamWord_eco (s : State) (k : Nat) (v : Word) :
    (s.setRamWord k v).eco = s.eco := rfl

@[simp] theorem State.setRamWord_ramAdj (s : State) (k : Nat) (v : Word) :
    (s.setRamWord k v).ramAdj = s.ramAdj := rfl

@[simp] theorem State.setRamWord_mid (s : State) (k : Nat) (v : Word) :
    (s.setRamWord k v).mid = s.mid := rfl

@[simp] theorem State.setRamWord_ram (s : State) (k : Nat) (v : Word) :
    (s.setRamWord k v).ram = writeWord s.ram (ramAddress k) v := rfl

@[simp] theorem State.setRamWord_winEn (s : State) (k : Nat) (v : Word) :
    (s.setRamWord k v).winEn = s.winEn := rfl

@[simp] theorem State.setRamWord_cfg (s : State) (k : Nat) (v : Word) :
    (s.setRamWord k v).cfg = s.cfg := rfl

@[simp] theorem State.setRamWord_inbox (s : State) (k : Nat) (v : Word) :
    (s.setRamWord k v).inbox = s.inbox := rfl

@[simp] theorem State.setRamWord_answer (s : State) (k : Nat) (v : Word) :
    (s.setRamWord k v).answer = s.answer := rfl

@[simp] theorem State.setRamWord_downstream (s : State) (k : Nat) (v : Word) :
    (s.setRamWord k v).downstream = s.downstream := rfl

@[simp] theorem State.setRamWord_draws (s : State) (k : Nat) (v : Word) :
    (s.setRamWord k v).draws = s.draws := rfl

@[simp] theorem State.respondRead_ctrl (s : State) (data : Word) :
    (s.respondRead data).ctrl = s.ctrl := rfl

@[simp] theorem State.respondRead_errStatus1 (s : State) (data : Word) :
    (s.respondRead data).errStatus1 = s.errStatus1 := rfl

@[simp] theorem State.respondRead_errStatus2 (s : State) (data : Word) :
    (s.respondRead data).errStatus2 = s.errStatus2 := rfl

@[simp] theorem State.respondRead_poison (s : State) (data : Word) :
    (s.respondRead data).poison = s.poison := rfl

@[simp] theorem State.respondRead_isr (s : State) (data : Word) :
    (s.respondRead data).isr = s.isr := rfl

@[simp] theorem State.respondRead_imr (s : State) (data : Word) :
    (s.respondRead data).imr = s.imr := rfl

@[simp] theorem State.respondRead_eco (s : State) (data : Word) :
    (s.respondRead data).eco = s.eco := rfl

@[simp] theorem State.respondRead_ramAdj (s : State) (data : Word) :
    (s.respondRead data).ramAdj = s.ramAdj := rfl

@[simp] theorem State.respondRead_mid (s : State) (data : Word) :
    (s.respondRead data).mid = s.mid := rfl

@[simp] theorem State.respondRead_ram (s : State) (data : Word) :
    (s.respondRead data).ram = s.ram := rfl

@[simp] theorem State.respondRead_winEn (s : State) (data : Word) :
    (s.respondRead data).winEn = s.winEn := rfl

@[simp] theorem State.respondRead_cfg (s : State) (data : Word) :
    (s.respondRead data).cfg = s.cfg := rfl

@[simp] theorem State.respondRead_inbox (s : State) (data : Word) :
    (s.respondRead data).inbox = s.inbox := rfl

@[simp] theorem State.respondRead_answer (s : State) (data : Word) :
    (s.respondRead data).answer = .read (data.setWidth 64) .ok := rfl

@[simp] theorem State.respondRead_downstream (s : State) (data : Word) :
    (s.respondRead data).downstream = s.downstream := rfl

@[simp] theorem State.respondRead_draws (s : State) (data : Word) :
    (s.respondRead data).draws = s.draws := rfl

@[simp] theorem State.respondWrite_ctrl (s : State) :
    (s.respondWrite).ctrl = s.ctrl := rfl

@[simp] theorem State.respondWrite_errStatus1 (s : State) :
    (s.respondWrite).errStatus1 = s.errStatus1 := rfl

@[simp] theorem State.respondWrite_errStatus2 (s : State) :
    (s.respondWrite).errStatus2 = s.errStatus2 := rfl

@[simp] theorem State.respondWrite_poison (s : State) :
    (s.respondWrite).poison = s.poison := rfl

@[simp] theorem State.respondWrite_isr (s : State) :
    (s.respondWrite).isr = s.isr := rfl

@[simp] theorem State.respondWrite_imr (s : State) :
    (s.respondWrite).imr = s.imr := rfl

@[simp] theorem State.respondWrite_eco (s : State) :
    (s.respondWrite).eco = s.eco := rfl

@[simp] theorem State.respondWrite_ramAdj (s : State) :
    (s.respondWrite).ramAdj = s.ramAdj := rfl

@[simp] theorem State.respondWrite_mid (s : State) :
    (s.respondWrite).mid = s.mid := rfl

@[simp] theorem State.respondWrite_ram (s : State) :
    (s.respondWrite).ram = s.ram := rfl

@[simp] theorem State.respondWrite_winEn (s : State) :
    (s.respondWrite).winEn = s.winEn := rfl

@[simp] theorem State.respondWrite_cfg (s : State) :
    (s.respondWrite).cfg = s.cfg := rfl

@[simp] theorem State.respondWrite_inbox (s : State) :
    (s.respondWrite).inbox = s.inbox := rfl

@[simp] theorem State.respondWrite_answer (s : State) :
    (s.respondWrite).answer = .write .ok := rfl

@[simp] theorem State.respondWrite_downstream (s : State) :
    (s.respondWrite).downstream = s.downstream := rfl

@[simp] theorem State.respondWrite_draws (s : State) :
    (s.respondWrite).draws = s.draws := rfl

@[simp] theorem State.setMid_ctrl (s : State) (i : Fin 20) (data : Word) :
    (s.setMid i data).ctrl = s.ctrl := rfl

@[simp] theorem State.setMid_errStatus1 (s : State) (i : Fin 20) (data : Word) :
    (s.setMid i data).errStatus1 = s.errStatus1 := rfl

@[simp] theorem State.setMid_errStatus2 (s : State) (i : Fin 20) (data : Word) :
    (s.setMid i data).errStatus2 = s.errStatus2 := rfl

@[simp] theorem State.setMid_poison (s : State) (i : Fin 20) (data : Word) :
    (s.setMid i data).poison = s.poison := rfl

@[simp] theorem State.setMid_isr (s : State) (i : Fin 20) (data : Word) :
    (s.setMid i data).isr = s.isr := rfl

@[simp] theorem State.setMid_imr (s : State) (i : Fin 20) (data : Word) :
    (s.setMid i data).imr = s.imr := rfl

@[simp] theorem State.setMid_eco (s : State) (i : Fin 20) (data : Word) :
    (s.setMid i data).eco = s.eco := rfl

@[simp] theorem State.setMid_ramAdj (s : State) (i : Fin 20) (data : Word) :
    (s.setMid i data).ramAdj = s.ramAdj := rfl

@[simp] theorem State.setMid_mid (s : State) (i : Fin 20) (data : Word) :
    (s.setMid i data).mid = s.mid.set i (data &&& midStoredBits) := rfl

@[simp] theorem State.setMid_ram (s : State) (i : Fin 20) (data : Word) :
    (s.setMid i data).ram = s.ram := rfl

@[simp] theorem State.setMid_winEn (s : State) (i : Fin 20) (data : Word) :
    (s.setMid i data).winEn = s.winEn := rfl

@[simp] theorem State.setMid_cfg (s : State) (i : Fin 20) (data : Word) :
    (s.setMid i data).cfg = s.cfg := rfl

@[simp] theorem State.setMid_inbox (s : State) (i : Fin 20) (data : Word) :
    (s.setMid i data).inbox = s.inbox := rfl

@[simp] theorem State.setMid_answer (s : State) (i : Fin 20) (data : Word) :
    (s.setMid i data).answer = s.answer := rfl

@[simp] theorem State.setMid_downstream (s : State) (i : Fin 20) (data : Word) :
    (s.setMid i data).downstream = s.downstream := rfl

@[simp] theorem State.setMid_draws (s : State) (i : Fin 20) (data : Word) :
    (s.setMid i data).draws = s.draws := rfl

@[simp] theorem State.acknowledge_ctrl (s : State) (data : Word) :
    (s.acknowledge data).ctrl = s.ctrl := rfl

@[simp] theorem State.acknowledge_errStatus1 (s : State) (data : Word) :
    (s.acknowledge data).errStatus1 = s.errStatus1 := rfl

@[simp] theorem State.acknowledge_errStatus2 (s : State) (data : Word) :
    (s.acknowledge data).errStatus2 = s.errStatus2 := rfl

@[simp] theorem State.acknowledge_poison (s : State) (data : Word) :
    (s.acknowledge data).poison = s.poison := rfl

@[simp] theorem State.acknowledge_isr (s : State) (data : Word) :
    (s.acknowledge data).isr = s.isr &&& ~~~(data.setWidth 8 &&& isrBits) := rfl

@[simp] theorem State.acknowledge_imr (s : State) (data : Word) :
    (s.acknowledge data).imr = s.imr := rfl

@[simp] theorem State.acknowledge_eco (s : State) (data : Word) :
    (s.acknowledge data).eco = s.eco := rfl

@[simp] theorem State.acknowledge_ramAdj (s : State) (data : Word) :
    (s.acknowledge data).ramAdj = s.ramAdj := rfl

@[simp] theorem State.acknowledge_mid (s : State) (data : Word) :
    (s.acknowledge data).mid = s.mid := rfl

@[simp] theorem State.acknowledge_ram (s : State) (data : Word) :
    (s.acknowledge data).ram = s.ram := rfl

@[simp] theorem State.acknowledge_winEn (s : State) (data : Word) :
    (s.acknowledge data).winEn = s.winEn := rfl

@[simp] theorem State.acknowledge_cfg (s : State) (data : Word) :
    (s.acknowledge data).cfg = s.cfg := rfl

@[simp] theorem State.acknowledge_inbox (s : State) (data : Word) :
    (s.acknowledge data).inbox = s.inbox := rfl

@[simp] theorem State.acknowledge_answer (s : State) (data : Word) :
    (s.acknowledge data).answer = s.answer := rfl

@[simp] theorem State.acknowledge_downstream (s : State) (data : Word) :
    (s.acknowledge data).downstream = s.downstream := rfl

@[simp] theorem State.acknowledge_draws (s : State) (data : Word) :
    (s.acknowledge data).draws = s.draws := rfl

@[simp] theorem State.latchFault_ctrl (s : State) (addr : Word) (id : BitVec 10) :
    (s.latchFault addr id).ctrl = s.ctrl := rfl

@[simp] theorem State.latchFault_errStatus1 (s : State) (addr : Word) (id : BitVec 10) :
    (s.latchFault addr id).errStatus1 = errorAddress addr := rfl

@[simp] theorem State.latchFault_errStatus2 (s : State) (addr : Word) (id : BitVec 10) :
    (s.latchFault addr id).errStatus2 = id := rfl

@[simp] theorem State.latchFault_poison (s : State) (addr : Word) (id : BitVec 10) :
    (s.latchFault addr id).poison = s.poison := rfl

@[simp] theorem State.latchFault_isr (s : State) (addr : Word) (id : BitVec 10) :
    (s.latchFault addr id).isr = s.isr ||| Cause.aperPerm.bit := rfl

@[simp] theorem State.latchFault_imr (s : State) (addr : Word) (id : BitVec 10) :
    (s.latchFault addr id).imr = s.imr := rfl

@[simp] theorem State.latchFault_eco (s : State) (addr : Word) (id : BitVec 10) :
    (s.latchFault addr id).eco = s.eco := rfl

@[simp] theorem State.latchFault_ramAdj (s : State) (addr : Word) (id : BitVec 10) :
    (s.latchFault addr id).ramAdj = s.ramAdj := rfl

@[simp] theorem State.latchFault_mid (s : State) (addr : Word) (id : BitVec 10) :
    (s.latchFault addr id).mid = s.mid := rfl

@[simp] theorem State.latchFault_ram (s : State) (addr : Word) (id : BitVec 10) :
    (s.latchFault addr id).ram = s.ram := rfl

@[simp] theorem State.latchFault_winEn (s : State) (addr : Word) (id : BitVec 10) :
    (s.latchFault addr id).winEn = s.winEn := rfl

@[simp] theorem State.latchFault_cfg (s : State) (addr : Word) (id : BitVec 10) :
    (s.latchFault addr id).cfg = s.cfg := rfl

@[simp] theorem State.latchFault_inbox (s : State) (addr : Word) (id : BitVec 10) :
    (s.latchFault addr id).inbox = s.inbox := rfl

@[simp] theorem State.latchFault_answer (s : State) (addr : Word) (id : BitVec 10) :
    (s.latchFault addr id).answer = s.answer := rfl

@[simp] theorem State.latchFault_downstream (s : State) (addr : Word) (id : BitVec 10) :
    (s.latchFault addr id).downstream = s.downstream := rfl

@[simp] theorem State.latchFault_draws (s : State) (addr : Word) (id : BitVec 10) :
    (s.latchFault addr id).draws = s.draws := rfl

@[simp] theorem State.forward_ctrl (s : State) (target : Word) (size : Nat) (access : Access) (m : Word) (secure : Bool) :
    (s.forward target size access m secure).ctrl = s.ctrl := rfl

@[simp] theorem State.forward_errStatus1 (s : State) (target : Word) (size : Nat) (access : Access) (m : Word) (secure : Bool) :
    (s.forward target size access m secure).errStatus1 = s.errStatus1 := rfl

@[simp] theorem State.forward_errStatus2 (s : State) (target : Word) (size : Nat) (access : Access) (m : Word) (secure : Bool) :
    (s.forward target size access m secure).errStatus2 = s.errStatus2 := rfl

@[simp] theorem State.forward_poison (s : State) (target : Word) (size : Nat) (access : Access) (m : Word) (secure : Bool) :
    (s.forward target size access m secure).poison = s.poison := rfl

@[simp] theorem State.forward_isr (s : State) (target : Word) (size : Nat) (access : Access) (m : Word) (secure : Bool) :
    (s.forward target size access m secure).isr = s.isr := rfl

@[simp] theorem State.forward_imr (s : State) (target : Word) (size : Nat) (access : Access) (m : Word) (secure : Bool) :
    (s.forward target size access m secure).imr = s.imr := rfl

@[simp] theorem State.forward_eco (s : State) (target : Word) (size : Nat) (access : Access) (m : Word) (secure : Bool) :
    (s.forward target size access m secure).eco = s.eco := rfl

@[simp] theorem State.forward_ramAdj (s : State) (target : Word) (size : Nat) (access : Access) (m : Word) (secure : Bool) :
    (s.forward target size access m secure).ramAdj = s.ramAdj := rfl

@[simp] theorem State.forward_mid (s : State) (target : Word) (size : Nat) (access : Access) (m : Word) (secure : Bool) :
    (s.forward target size access m secure).mid = s.mid := rfl

@[simp] theorem State.forward_ram (s : State) (target : Word) (size : Nat) (access : Access) (m : Word) (secure : Bool) :
    (s.forward target size access m secure).ram = s.ram := rfl

@[simp] theorem State.forward_winEn (s : State) (target : Word) (size : Nat) (access : Access) (m : Word) (secure : Bool) :
    (s.forward target size access m secure).winEn = s.winEn := rfl

@[simp] theorem State.forward_cfg (s : State) (target : Word) (size : Nat) (access : Access) (m : Word) (secure : Bool) :
    (s.forward target size access m secure).cfg = s.cfg := rfl

@[simp] theorem State.forward_inbox (s : State) (target : Word) (size : Nat) (access : Access) (m : Word) (secure : Bool) :
    (s.forward target size access m secure).inbox = s.inbox := rfl

@[simp] theorem State.forward_downstream (s : State) (target : Word) (size : Nat) (access : Access) (m : Word) (secure : Bool) :
    (s.forward target size access m secure).downstream = s.downstream ++ [⟨target, size, access, m, secure⟩] := rfl

@[simp] theorem State.forward_draws (s : State) (target : Word) (size : Nat) (access : Access) (m : Word) (secure : Bool) :
    (s.forward target size access m secure).draws = s.draws + 1 := rfl

@[simp] theorem State.resetBlock_ctrl (s : State) :
    (s.resetBlock).ctrl = 0#3 := rfl

@[simp] theorem State.resetBlock_errStatus1 (s : State) :
    (s.resetBlock).errStatus1 = 0#20 := rfl

@[simp] theorem State.resetBlock_errStatus2 (s : State) :
    (s.resetBlock).errStatus2 = 0#10 := rfl

@[simp] theorem State.resetBlock_poison (s : State) :
    (s.resetBlock).poison = s.cfg.poisonReset := rfl

@[simp] theorem State.resetBlock_isr (s : State) :
    (s.resetBlock).isr = 0#8 := rfl

@[simp] theorem State.resetBlock_imr (s : State) :
    (s.resetBlock).imr = s.cfg.imrReset &&& isrBits := rfl

@[simp] theorem State.resetBlock_eco (s : State) :
    (s.resetBlock).eco = 0#32 := rfl

@[simp] theorem State.resetBlock_ramAdj (s : State) :
    (s.resetBlock).ramAdj = Config.ramAdjReset s.draws := rfl

@[simp] theorem State.resetBlock_mid (s : State) :
    (s.resetBlock).mid = midReset s.cfg := rfl

@[simp] theorem State.resetBlock_ram (s : State) :
    (s.resetBlock).ram = [] := rfl

@[simp] theorem State.resetBlock_winEn (s : State) :
    (s.resetBlock).winEn = ⟨false, false, false, false⟩ := rfl

@[simp] theorem State.resetBlock_cfg (s : State) :
    (s.resetBlock).cfg = s.cfg := rfl

@[simp] theorem State.resetBlock_inbox (s : State) :
    (s.resetBlock).inbox = s.inbox := rfl

@[simp] theorem State.resetBlock_answer (s : State) :
    (s.resetBlock).answer = .none := rfl

@[simp] theorem State.resetBlock_downstream (s : State) :
    (s.resetBlock).downstream = s.downstream := rfl

@[simp] theorem State.resetBlock_draws (s : State) :
    (s.resetBlock).draws = s.draws + 1 := rfl

@[simp] theorem State.deliver_ctrl (s : State) (d : Delivery) :
    (s.deliver d).ctrl = s.ctrl := rfl

@[simp] theorem State.deliver_errStatus1 (s : State) (d : Delivery) :
    (s.deliver d).errStatus1 = s.errStatus1 := rfl

@[simp] theorem State.deliver_errStatus2 (s : State) (d : Delivery) :
    (s.deliver d).errStatus2 = s.errStatus2 := rfl

@[simp] theorem State.deliver_poison (s : State) (d : Delivery) :
    (s.deliver d).poison = s.poison := rfl

@[simp] theorem State.deliver_isr (s : State) (d : Delivery) :
    (s.deliver d).isr = s.isr := rfl

@[simp] theorem State.deliver_imr (s : State) (d : Delivery) :
    (s.deliver d).imr = s.imr := rfl

@[simp] theorem State.deliver_eco (s : State) (d : Delivery) :
    (s.deliver d).eco = s.eco := rfl

@[simp] theorem State.deliver_ramAdj (s : State) (d : Delivery) :
    (s.deliver d).ramAdj = s.ramAdj := rfl

@[simp] theorem State.deliver_mid (s : State) (d : Delivery) :
    (s.deliver d).mid = s.mid := rfl

@[simp] theorem State.deliver_ram (s : State) (d : Delivery) :
    (s.deliver d).ram = s.ram := rfl

@[simp] theorem State.deliver_winEn (s : State) (d : Delivery) :
    (s.deliver d).winEn = s.winEn := rfl

@[simp] theorem State.deliver_cfg (s : State) (d : Delivery) :
    (s.deliver d).cfg = s.cfg := rfl

@[simp] theorem State.deliver_inbox (s : State) (d : Delivery) :
    (s.deliver d).inbox = d :: s.inbox := rfl

@[simp] theorem State.deliver_answer (s : State) (d : Delivery) :
    (s.deliver d).answer = s.answer := rfl

@[simp] theorem State.deliver_downstream (s : State) (d : Delivery) :
    (s.deliver d).downstream = s.downstream := rfl

@[simp] theorem State.deliver_draws (s : State) (d : Delivery) :
    (s.deliver d).draws = s.draws := rfl

end Sys2Proof.Machine
end

