-- ==== Sys2Proof/Laws/Ops.lean ====
section
/-! SUPPORT. What each shared operation can do, said once: re-validation, the scan of the Master-ID slots, the aperture
access, and every instruction's next state. -/

namespace Sys2Proof.Machine

open Sys2Proof

/-! ### The families' helpers -/

/-- The read of Master-ID register `i` is `mid_read(i)`. -/
theorem exec_midRd (i : Fin 20) (secure : Bool) (s : State) : exec (.midRd i secure) s = midRead i secure s := by
  revert i
  simp only [Fin.forall_fin_succ, IsEmpty.forall_iff, and_true]
  repeat' constructor

/-- The write of Master-ID register `i` is `mid_write(i, data)`. -/
theorem exec_midWr (i : Fin 20) (secure : Bool) (data : Word) (s : State) :
    exec (.midWr i secure data) s = midWrite i secure data s := by
  revert i
  simp only [Fin.forall_fin_succ, IsEmpty.forall_iff, and_true]
  repeat' constructor

/-- The aperture operations are `aperture_access`. -/
theorem exec_ap (a : Aperture) (off : Word) (size : Nat) (access : Access) (m : Word) (secure : Bool) (s : State) :
    exec (.ap a off size access m secure) s = apertureAccess a off size access m secure s := by
  cases a <;> cases access <;> rfl

/-- An aperture operation is of the aperture kind. -/
theorem kind_ap (a : Aperture) (off : Word) (size : Nat) (access : Access) (m : Word) (secure : Bool) :
    (Instr.ap a off size access m secure).kind = .aperture secure := by
  cases a <;> cases access <;> rfl

/-! ### Re-validation -/

/-- Re-validating one register sets MID_PARITY or nothing. -/
theorem revalidateMid_eq (i : Fin 20) (s : State) :
    s.revalidateMid i =
      if s.ctrl.getLsbD 1 = true ∧ s.cfg.revalidateSetsIsr = true ∧ midParityOk s.mid[i] = false then
        { s with isr := s.isr ||| 0x08#8 }
      else s := by
  have cond : (s.ctrl.getLsbD 1 && s.cfg.revalidateSetsIsr && !midParityOk s.mid[i]) = true ↔
      s.ctrl.getLsbD 1 = true ∧ s.cfg.revalidateSetsIsr = true ∧ midParityOk s.mid[i] = false := by
    simp [and_assoc]
  simp only [State.revalidateMid, ctrlMidParityEn, cond]
  rfl

/-- Writing a Master-ID register and re-validating it, by the parity of the stored value. -/
theorem setMid_revalidateMid (i : Fin 20) (d : Word) (s : State) :
    (s.setMid i d).revalidateMid i =
      { s with
        mid := s.mid.set i (d &&& 0xC3FF03FF#32)
        isr :=
          if s.ctrl.getLsbD 1 = true ∧ s.cfg.revalidateSetsIsr = true ∧ midParityOk (d &&& 0xC3FF03FF#32) = false then
            s.isr ||| 0x08#8
          else s.isr } := by
  have stored : (s.setMid i d).mid[i] = d &&& 0xC3FF03FF#32 := by simp [midStoredBits]
  have cond : ((s.setMid i d).ctrl.getLsbD 1 = true ∧ (s.setMid i d).cfg.revalidateSetsIsr = true ∧
      midParityOk (s.setMid i d).mid[i] = false) ↔
      (s.ctrl.getLsbD 1 = true ∧ s.cfg.revalidateSetsIsr = true ∧ midParityOk (d &&& 0xC3FF03FF#32) = false) := by
    rw [stored]
    exact Iff.rfl
  rw [revalidateMid_eq]
  simp only [cond]
  split <;> rfl

/-- Re-validating a list of registers sets MID_PARITY once if one of them fails. -/
theorem revalidate_foldl (l : List (Fin 20)) (s : State) :
    l.foldl (fun t i => State.revalidateMid i t) s =
      if s.ctrl.getLsbD 1 = true ∧ s.cfg.revalidateSetsIsr = true ∧ ∃ i ∈ l, midParityOk s.mid[i] = false then
        { s with isr := s.isr ||| 0x08#8 }
      else s := by
  induction l generalizing s with
  | nil => simp
  | cons i rest ih =>
    rw [List.foldl_cons, revalidateMid_eq]
    by_cases h : s.ctrl.getLsbD 1 = true ∧ s.cfg.revalidateSetsIsr = true
    · obtain ⟨h1, h2⟩ := h
      by_cases hi : midParityOk s.mid[i] = false
      · simp only [h1, h2, hi, and_self, if_true, ih, true_and, List.mem_cons, exists_eq_or_imp, true_or]
        split <;> simp [BitVec.or_assoc]
      · rw [if_neg (fun hp => hi hp.2.2), ih]
        simp only [h1, h2, true_and, List.mem_cons, exists_eq_or_imp, hi, Bool.true_eq_false, false_or]
    · have hn : ∀ p : Prop, ¬(s.ctrl.getLsbD 1 = true ∧ s.cfg.revalidateSetsIsr = true ∧ p) := fun p hp =>
        h ⟨hp.1, hp.2.1⟩
      simp only [hn, if_false, ih]

/-- Re-validating every register. -/
theorem revalidateAll_eq (s : State) :
    s.revalidateAll =
      if s.ctrl.getLsbD 1 = true ∧ s.cfg.revalidateSetsIsr = true ∧ ∃ i : Fin 20, midParityOk s.mid[i] = false then
        { s with isr := s.isr ||| 0x08#8 }
      else s := by
  rw [State.revalidateAll, revalidate_foldl]
  simp only [List.mem_finRange, true_and]

/-- Re-validation changes ISR alone, by MID_PARITY or not at all. -/
theorem revalidateMid_cases (i : Fin 20) (s : State) :
    s.revalidateMid i = s ∨ s.revalidateMid i = { s with isr := s.isr ||| 0x08#8 } := by
  rw [revalidateMid_eq]
  split <;> simp

/-- Re-validation of all registers changes ISR alone, by MID_PARITY or not at all. -/
theorem revalidateAll_cases (s : State) :
    s.revalidateAll = s ∨ s.revalidateAll = { s with isr := s.isr ||| 0x08#8 } := by
  rw [revalidateAll_eq]
  split <;> simp

/-! ### The permission RAM in configuration accesses -/

/-- Reading an entry: the word, or 0 where the instance has none. -/
theorem cfgRamRead_eq (k : Nat) (secure : Bool) (s : State) :
    cfgRamRead k secure s = cfgRead secure (if k < s.cfg.nrApl then readWord s.ram (ramAddress k) else 0#32) s := by
  by_cases hk : k < s.cfg.nrApl
  · simp only [cfgRamRead, State.ramWord, if_pos hk]
  · simp only [cfgRamRead, State.ramWord, if_neg hk, cfgRead, ite_self]
    rfl

/-- Writing an entry: the word is stored, or nothing where the instance has none. -/
theorem cfgRamWrite_eq (k : Nat) (secure : Bool) (data : Word) (s : State) :
    cfgRamWrite k secure data s =
      cfgWrite secure (fun t => if k < s.cfg.nrApl then t.setRamWord k data else t) s := by
  by_cases hk : k < s.cfg.nrApl
  · simp only [cfgRamWrite, State.ramWord, if_pos hk]
  · simp only [cfgRamWrite, State.ramWord, if_neg hk, cfgWrite, ite_self]
    rfl

/-- A read at an offset of the out-of-range rows: a word past the table's, or 0. -/
theorem unlistedRead_eq (off : Word) (secure : Bool) (s : State) :
    unlistedRead off secure s =
      cfgRead secure
        (if 0x1000 ≤ off.toNat ∧ (off.toNat - 0x1000) / 4 < s.cfg.nrApl then
          readWord s.ram (ramAddress ((off.toNat - 0x1000) / 4)) else 0#32) s := by
  by_cases h : 0x1000 ≤ off.toNat
  · simp only [unlistedRead, ramWindowBase, cfgRamRead_eq, h, if_true, true_and]
  · simp only [unlistedRead, ramWindowBase, h, false_and, if_false, cfgRead, ite_self]
    rfl

/-- A write at an offset of the out-of-range rows: a word past the table's is stored, or nothing. -/
theorem unlistedWrite_eq (off : Word) (secure : Bool) (data : Word) (s : State) :
    unlistedWrite off secure data s =
      cfgWrite secure
        (fun t => if 0x1000 ≤ off.toNat ∧ (off.toNat - 0x1000) / 4 < s.cfg.nrApl then
          t.setRamWord ((off.toNat - 0x1000) / 4) data else t) s := by
  by_cases h : 0x1000 ≤ off.toNat
  · simp only [unlistedWrite, ramWindowBase, cfgRamWrite_eq, h, if_true, true_and]
  · simp only [unlistedWrite, ramWindowBase, h, false_and, if_false, cfgWrite, ite_self]
    rfl

/-! ### The scan -/

/-- ISR only gains bits in a scan. -/
theorem scanSlots_isr_mono (v : Fin 20 → SlotVerdict) (l : List (Fin 20)) (m : Bool) (f : BitVec 8) :
    f &&& (scanSlots v l m f).isr = f := by
  have grow : ∀ a b c : BitVec 8, (a ||| b) &&& c = a ||| b → a &&& c = a := by
    intro a b c h
    apply BitVec.eq_of_getLsbD_eq
    intro n hn
    have := congrArg (fun x => x.getLsbD n) h
    simp only [BitVec.getLsbD_and, BitVec.getLsbD_or] at this ⊢
    revert this
    cases a.getLsbD n <;> cases b.getLsbD n <;> cases c.getLsbD n <;> decide
  have keep : ∀ a b : BitVec 8, a &&& (a ||| b) = a := by
    intro a b
    apply BitVec.eq_of_getLsbD_eq
    intro n hn
    simp only [BitVec.getLsbD_and, BitVec.getLsbD_or]
    cases a.getLsbD n <;> cases b.getLsbD n <;> rfl
  induction l generalizing m f with
  | nil =>
    simp only [scanSlots]
    split
    · exact BitVec.and_self
    · exact keep _ _
  | cons i rest ih =>
    simp only [scanSlots]
    split
    · exact BitVec.and_self
    · exact grow _ _ _ (ih _ _)

/-- The check only gains ISR bits. -/
theorem checkPermission_isr_mono (s : State) (e : Word) (id : BitVec 10) (w secure : Bool) :
    s.isr &&& (s.checkPermission e id w secure).isr = s.isr := by
  simp only [State.checkPermission]
  split
  · apply BitVec.eq_of_getLsbD_eq
    intro n hn
    simp only [BitVec.getLsbD_and, BitVec.getLsbD_or]
    cases s.isr.getLsbD n <;> cases (Cause.aperParity.bit).getLsbD n <;> rfl
  · exact scanSlots_isr_mono _ _ _ _

/-- A bit that no verdict and no miss sets stays as it was. -/
theorem scanSlots_isr_bit {n : Nat} (hmiss : Cause.midMiss.bit.getLsbD n = false) (v : Fin 20 → SlotVerdict)
    (hv : ∀ r : SlotVerdict, r.isr.getLsbD n = false) (l : List (Fin 20)) (m : Bool) (f : BitVec 8) :
    (scanSlots v l m f).isr.getLsbD n = f.getLsbD n := by
  induction l generalizing m f with
  | nil =>
    simp only [scanSlots]
    split
    · rfl
    · simp [BitVec.getLsbD_or, hmiss]
  | cons i rest ih =>
    simp only [scanSlots]
    split
    · rfl
    · rw [ih, BitVec.getLsbD_or, hv, Bool.or_false]

/-- A slot's verdict by its defining conditions. -/
theorem slotVerdict_authorizes_iff (s : State) (e : Word) (id : BitVec 10) (w secure : Bool) (i : Fin 20) :
    s.slotVerdict e id w secure i = .authorizes ↔ s.slotAdmits e id w secure i := by
  have fails : (ctrlMidParityEn s.ctrl && !midParityOk s.mid[i]) = true ↔ s.slotFails i := by
    simp only [ctrlMidParityEn, Bool.and_eq_true, Bool.not_eq_true']
  have differs : (midField s.mid[i] &&& midmField s.mid[i] != id &&& midmField s.mid[i]) = true ↔
      ¬s.slotMatches id i := by
    simp only [midField, midmField, bne_iff_ne, ne_eq]
  have blocked : (midrFlag s.mid[i] && w) = true ↔ s.slotReadOnly w i := by
    simp only [midrFlag, Bool.and_eq_true]
  have zone : (!secure && !tzBit e) = true ↔ ¬(secure = true ∨ e.getLsbD 27 = true) := by
    simp only [tzBit, Bool.and_eq_true, Bool.not_eq_true', not_or, Bool.not_eq_true]
  simp only [State.slotVerdict, fails, differs, blocked, zone, Bool.not_eq_true']
  split
  · rename_i h
    exact ⟨fun hh => (by cases hh), fun hh => absurd hh.1.1 (by simp [h])⟩
  · rename_i he
    split
    · rename_i h
      exact ⟨fun hh => (by cases hh), fun hh => absurd h hh.1.2.1⟩
    · rename_i hp
      split
      · rename_i h
        exact ⟨fun hh => (by cases hh), fun hh => absurd hh.1.2.2 h⟩
      · rename_i hm
        split
        · rename_i h
          exact ⟨fun hh => (by cases hh), fun hh => absurd h hh.2.1⟩
        · rename_i hr
          split
          · rename_i h
            exact ⟨fun hh => (by cases hh), fun hh => absurd hh.2.2 h⟩
          · rename_i hz
            exact ⟨fun _ => ⟨⟨by simpa using he, hp, not_not.mp hm⟩, hr, not_not.mp hz⟩, fun _ => rfl⟩

/-! ### The aperture access -/

/-- In an instance whose rows stay inside the permission RAM, the selected entry exists. -/
theorem aplIndex_lt {c : Config} (h : c.wf = true) (a : Aperture) (addr : Word) :
    aplIndex (c.aperture a) addr < c.nrApl := by
  have hd : (c.aperture a).wf c.nrApl = true := by
    simp only [Config.wf, Bool.and_eq_true] at h
    obtain ⟨⟨⟨h1, h2⟩, h3⟩, h4⟩ := h
    cases a <;> assumption
  simp only [ApertureDesc.wf, Bool.and_eq_true, decide_eq_true_eq] at hd
  have hle : ((addr >>> (c.aperture a).shift) &&& (c.aperture a).mask).toNat ≤ (c.aperture a).mask.toNat := by
    rw [BitVec.toNat_and]
    exact Nat.and_le_right
  simp only [aplIndex]
  omega

/-- What an aperture access can do when it answers a next state: it was admitted, and either its window is disabled, or
it is the checked access of the entry its address selects. -/
theorem apertureAccess_next {a : Aperture} {off : Word} {size : Nat} {access : Access} {m : Word} {secure : Bool}
    {s t : State} (h : apertureAccess a off size access m secure s = .next t) :
    apertureFits (s.cfg.aperture a) off size = true ∧
      ((s.winEn.get a = false ∧ t = { s with answer := .notDecoded }) ∨
        (s.winEn.get a = true ∧ aplIndex (s.cfg.aperture a) (s.addressOf a off) < s.cfg.nrApl ∧
          t = s.checkedAccess (s.entryFor a off) (s.addressOf a off) size access m secure)) := by
  simp only [apertureAccess, apertureAdmitted, Bool.not_eq_true'] at h
  split at h
  · cases h
  · rename_i hf
    refine ⟨by simpa using hf, ?_⟩
    split at h
    · rename_i hw
      cases h
      exact Or.inl ⟨hw, rfl⟩
    · rename_i hw
      split at h
      · rename_i e he
        cases h
        simp only [State.ramWord] at he
        split at he
        · rename_i hlt
          cases he
          exact Or.inr ⟨by simpa using hw, hlt, rfl⟩
        · cases he
      · cases h

/-- An admitted access through an enabled window, in an instance whose rows stay inside the permission RAM. -/
theorem apertureAccess_enabled {a : Aperture} {off : Word} {size : Nat} {s : State} (hc : s.cfg.wf = true)
    (hf : apertureFits (s.cfg.aperture a) off size = true) (hw : s.winEn.get a = true) (access : Access) (m : Word)
    (secure : Bool) :
    apertureAccess a off size access m secure s =
      .next (s.checkedAccess (s.entryFor a off) (s.addressOf a off) size access m secure) := by
  have hlt : aplIndex (s.cfg.aperture a) (absoluteAddress (s.cfg.aperture a) off) < s.cfg.nrApl := aplIndex_lt hc a _
  simp only [apertureAccess, apertureAdmitted, hf, hw, State.ramWord, hlt, if_true, Bool.not_true,
    Bool.false_eq_true, if_false]
  rfl

/-- The checked access, field by field: one forward, the check's ISR bits and at most the latch. -/
theorem checkedAccess_eq (s : State) (e addr : Word) (size : Nat) (access : Access) (m : Word) (secure : Bool) :
    s.checkedAccess e addr size access m secure =
      (let c := s.checkPermission e (m.extractLsb' 0 10) access.isWrite secure
        if c.ok = true then
          { s with
            isr := c.isr
            downstream := s.downstream ++ [⟨addr, size, access, m, secure⟩]
            draws := s.draws + 1
            answer := s.downAnswer addr size access }
        else
          { s with
            isr := if s.latchFree then c.isr ||| 0x20#8 else c.isr
            errStatus1 := if s.latchFree then addr.extractLsb' 12 20 else s.errStatus1
            errStatus2 := if s.latchFree then m.extractLsb' 0 10 else s.errStatus2
            downstream := s.downstream ++ [⟨s.poison ++ addr.extractLsb' 0 12, size, access, m, secure⟩]
            draws := s.draws + 1
            answer := s.downAnswer (s.poison ++ addr.extractLsb' 0 12) size access }) := by
  simp only [State.checkedAccess, requesterId, State.isrFree, beq_iff_eq]
  split
  · cases access <;> rfl
  · by_cases hf : s.latchFree
    · rw [if_pos hf]
      cases access <;> simp only [if_pos hf] <;> rfl
    · rw [if_neg hf]
      cases access <;> simp only [if_neg hf] <;> rfl

/-! ### Every instruction -/

/-- The secure write of permission-RAM entry `k`: an entry of a sub-block, or one named by an offset past them. -/
inductive WritesRam : Instr → Nat → Word → Prop where
  | apl64kb (j : BitVec 8) (d : Word) : WritesRam (.cfgWrApl64kb j true d) j.toNat d
  | apl32b (j : BitVec 7) (d : Word) : WritesRam (.cfgWrApl32b j true d) (256 + j.toNat) d
  | apl1mb (j : BitVec 4) (d : Word) : WritesRam (.cfgWrApl1mb j true d) (384 + j.toNat) d
  | apl512mb (d : Word) : WritesRam (.cfgWrApl512mb true d) 400 d
  | unlisted (off : Word) (d : Word) (h : 0x1000 ≤ off.toNat) :
      WritesRam (.cfgWrOor off true d) ((off.toNat - 0x1000) / 4) d

/-- The next states of an instruction, by what it changes. -/
inductive Effect : Instr → State → State → Prop where
  /-- Only the answer. -/
  | answers (i : Instr) (s : State) (x : Answer) (h : i ≠ .reset) : Effect i s { s with answer := x }
  | hole (i : Instr) (s : State) (x : Answer) (w b : Bool) (h : i.kind = .hole w b) :
      Effect i s { s with isr := s.isr ||| 0x01#8, answer := x }
  | ctrl (s : State) (d : Word) (f : BitVec 8) (h : f = s.isr ∨ f = s.isr ||| 0x08#8) :
      Effect (.cfgWrCtrl true d) s
        { s with
          ctrl := d.extractLsb' 0 3, winEn := WinEn.all (d.getLsbD 0), isr := f, answer := .write .ok }
  | poison (s : State) (d : Word) :
      Effect (.cfgWrPoison true d) s { s with poison := d.setWidth 20, answer := .write .ok }
  | isr (s : State) (d : Word) :
      Effect (.cfgWrIsr true d) s { s with isr := s.isr &&& ~~~(d.setWidth 8 &&& 0xEF#8), answer := .write .ok }
  | ien (s : State) (d : Word) :
      Effect (.cfgWrIen true d) s { s with imr := s.imr &&& ~~~(d.setWidth 8 &&& 0xEF#8), answer := .write .ok }
  | ids (s : State) (d : Word) :
      Effect (.cfgWrIds true d) s { s with imr := s.imr ||| (d.setWidth 8 &&& 0xEF#8), answer := .write .ok }
  | eco (s : State) (d : Word) : Effect (.cfgWrEco true d) s { s with eco := d, answer := .write .ok }
  | ramAdj (s : State) (d : Word) : Effect (.cfgWrRamAdj true d) s { s with ramAdj := d, answer := .write .ok }
  | mid (s : State) (n : Fin 20) (d : Word) (f : BitVec 8) (h : f = s.isr ∨ f = s.isr ||| 0x08#8) :
      Effect (.midWr n true d) s
        { s with mid := s.mid.set n (d &&& 0xC3FF03FF#32), isr := f, answer := .write .ok }
  | ram (i : Instr) (s : State) (k : Nat) (d : Word) (hk : k < s.cfg.nrApl)
      (h : WritesRam i k d) :
      Effect i s { s with ram := writeWord s.ram (ramAddress k) d, answer := .write .ok }
  | access (s : State) (a : Aperture) (off : Word) (size : Nat) (x : Access) (m : Word) (secure : Bool)
      (hf : apertureFits (s.cfg.aperture a) off size = true) (hw : s.winEn.get a = true) :
      Effect (.ap a off size x m secure) s
        (s.checkedAccess (s.entryFor a off) (s.addressOf a off) size x m secure)
  | reset (s : State) : Effect .reset s s.resetBlock

/-- A configuration read's effect. -/
theorem effect_cfgRead {i : Instr} (h : i ≠ .reset) {secure : Bool} {v : Word} {s t : State}
    (e : cfgRead secure v s = .next t) : Effect i s t := by
  cases e
  exact .answers i s _ h

/-- A dropped or ignored configuration write's effect. -/
theorem effect_ignored {i : Instr} (h : i ≠ .reset) {s t : State} (e : cfgWriteIgnored s = .next t) : Effect i s t := by
  cases e
  exact .answers i s _ h

/-- The effect of an aperture operation. -/
theorem effect_ap {a : Aperture} {off : Word} {size : Nat} {x : Access} {m : Word} {secure : Bool} {s t : State}
    (e : apertureAccess a off size x m secure s = .next t) : Effect (.ap a off size x m secure) s t := by
  obtain ⟨hf, ⟨_, rfl⟩ | ⟨hw, _, rfl⟩⟩ := apertureAccess_next e
  · exact .answers _ s _ (by cases a <;> cases x <;> simp [Instr.ap])
  · exact .access s a off size x m secure hf hw

/-- The effect of a Master-ID write. -/
theorem effect_midWrite {n : Fin 20} {secure : Bool} {d : Word} {s t : State}
    (e : midWrite n secure d s = .next t) : Effect (.midWr n secure d) s t := by
  cases secure with
  | false =>
    cases e
    refine .answers _ s _ ?_
    revert n
    simp only [Fin.forall_fin_succ, IsEmpty.forall_iff, and_true]
    repeat' constructor
    all_goals (intro hh; cases hh)
  | true =>
    have hm := revalidateMid_cases n (s.setMid n d)
    cases e
    rcases hm with hm | hm
    · simp only [if_true, hm]
      exact .mid s n d s.isr (Or.inl rfl)
    · simp only [if_true, hm]
      exact .mid s n d _ (Or.inr rfl)

/-- A permission-RAM write's effect: a dropped one's, or that of an entry the instance has or has not. -/
theorem effect_ramWrite {i : Instr} {k : Nat} {secure : Bool} {d : Word} {s t : State} (hr : i ≠ .reset)
    (hi : secure = true → WritesRam i k d) (e : cfgRamWrite k secure d s = .next t) : Effect i s t := by
  rw [cfgRamWrite_eq] at e
  cases secure with
  | false =>
    cases e
    exact .answers i s _ hr
  | true =>
    by_cases hk : k < s.cfg.nrApl
    · simp only [cfgWrite, if_true, if_pos hk] at e
      cases e
      exact .ram i s k d hk (hi rfl)
    · simp only [cfgWrite, if_true, if_neg hk] at e
      cases e
      exact .answers i s _ hr

/-- Every next state of every instruction is one of `Effect`. -/
theorem exec_next {i : Instr} {s t : State} (h : exec i s = .next t) : Effect i s t := by
  cases i with
  | cfgRdHole off b => cases h; exact .hole _ s _ false b rfl
  | cfgWrHole off b d => cases h; exact .hole _ s _ true b rfl
  | cfgRdOor off b => exact effect_cfgRead (by simp) ((unlistedRead_eq off b s).symm.trans h)
  | cfgWrOor off b d =>
    by_cases ho : 0x1000 ≤ off.toNat
    · have e : unlistedWrite off b d s = cfgRamWrite ((off.toNat - 0x1000) / 4) b d s := if_pos ho
      exact effect_ramWrite (by simp) (fun hb => hb ▸ .unlisted off d ho) (e.symm.trans h)
    · have e : unlistedWrite off b d s = outOfRangeWrite s := if_neg ho
      cases e.symm.trans h
      exact .answers _ s _ (by simp)
  | reset => cases h; exact .reset s
  | cfgWrCtrl b d =>
    cases b with
    | false => cases h; exact .answers _ s _ (by simp)
    | true =>
      have hm := revalidateAll_cases { s with ctrl := d.extractLsb' 0 3, winEn := WinEn.all (d.getLsbD 0) }
      cases h
      rcases hm with hm | hm
      · simp only [if_true, State.writeCtrl, hm]
        exact .ctrl s d s.isr (Or.inl rfl)
      · simp only [if_true, State.writeCtrl, hm]
        exact .ctrl s d _ (Or.inr rfl)
  | cfgWrPoison b d =>
    cases b with
    | false => cases h; exact .answers _ s _ (by simp)
    | true =>
      cases h
      by_cases hp : s.cfg.poisonWritable = true
      · simp only [if_true, hp]
        exact .poison s d
      · simp only [if_true, hp]
        exact .answers _ s _ (by simp)
  | cfgWrIsr b d => cases b with
    | false => cases h; exact .answers _ s _ (by simp)
    | true => cases h; exact .isr s d
  | cfgWrIen b d => cases b with
    | false => cases h; exact .answers _ s _ (by simp)
    | true => cases h; exact .ien s d
  | cfgWrIds b d => cases b with
    | false => cases h; exact .answers _ s _ (by simp)
    | true => cases h; exact .ids s d
  | cfgWrEco b d => cases b with
    | false => cases h; exact .answers _ s _ (by simp)
    | true => cases h; exact .eco s d
  | cfgWrRamAdj b d => cases b with
    | false => cases h; exact .answers _ s _ (by simp)
    | true => cases h; exact .ramAdj s d
  | cfgRdApl64kb k b => exact effect_cfgRead (by simp) ((cfgRamRead_eq _ b s).symm.trans h)
  | cfgRdApl32b k b => exact effect_cfgRead (by simp) ((cfgRamRead_eq _ b s).symm.trans h)
  | cfgRdApl1mb k b => exact effect_cfgRead (by simp) ((cfgRamRead_eq _ b s).symm.trans h)
  | cfgRdApl512mb b => exact effect_cfgRead (by simp) ((cfgRamRead_eq _ b s).symm.trans h)
  | cfgWrApl64kb k b d => exact effect_ramWrite (by simp) (fun hb => hb ▸ .apl64kb k d) h
  | cfgWrApl32b k b d => exact effect_ramWrite (by simp) (fun hb => hb ▸ .apl32b k d) h
  | cfgWrApl1mb k b d => exact effect_ramWrite (by simp) (fun hb => hb ▸ .apl1mb k d) h
  | cfgWrApl512mb b d => exact effect_ramWrite (by simp) (fun hb => hb ▸ .apl512mb d) h
  | cfgWrMasterId00 b d => exact effect_midWrite (n := 0) h
  | cfgWrMasterId01 b d => exact effect_midWrite (n := 1) h
  | cfgWrMasterId02 b d => exact effect_midWrite (n := 2) h
  | cfgWrMasterId03 b d => exact effect_midWrite (n := 3) h
  | cfgWrMasterId04 b d => exact effect_midWrite (n := 4) h
  | cfgWrMasterId05 b d => exact effect_midWrite (n := 5) h
  | cfgWrMasterId06 b d => exact effect_midWrite (n := 6) h
  | cfgWrMasterId07 b d => exact effect_midWrite (n := 7) h
  | cfgWrMasterId08 b d => exact effect_midWrite (n := 8) h
  | cfgWrMasterId09 b d => exact effect_midWrite (n := 9) h
  | cfgWrMasterId10 b d => exact effect_midWrite (n := 10) h
  | cfgWrMasterId11 b d => exact effect_midWrite (n := 11) h
  | cfgWrMasterId12 b d => exact effect_midWrite (n := 12) h
  | cfgWrMasterId13 b d => exact effect_midWrite (n := 13) h
  | cfgWrMasterId14 b d => exact effect_midWrite (n := 14) h
  | cfgWrMasterId15 b d => exact effect_midWrite (n := 15) h
  | cfgWrMasterId16 b d => exact effect_midWrite (n := 16) h
  | cfgWrMasterId17 b d => exact effect_midWrite (n := 17) h
  | cfgWrMasterId18 b d => exact effect_midWrite (n := 18) h
  | cfgWrMasterId19 b d => exact effect_midWrite (n := 19) h
  | apRd32b off size m b => exact effect_ap (a := .ap32b) (x := .read) h
  | apWr32b off size m b d => exact effect_ap (a := .ap32b) (x := .write d) h
  | apRd64kb off size m b => exact effect_ap (a := .ap64kb) (x := .read) h
  | apWr64kb off size m b d => exact effect_ap (a := .ap64kb) (x := .write d) h
  | apRd1mb off size m b => exact effect_ap (a := .ap1mb) (x := .read) h
  | apWr1mb off size m b d => exact effect_ap (a := .ap1mb) (x := .write d) h
  | apRd512mb off size m b => exact effect_ap (a := .ap512mb) (x := .read) h
  | apWr512mb off size m b d => exact effect_ap (a := .ap512mb) (x := .write d) h
  | _ => first | exact effect_cfgRead (by simp) h | exact effect_ignored (by simp) h

end Sys2Proof.Machine
end

