-- ==== Sys2Proof/Laws/Check.lean ====
section
/-! SUPPORT. What the loop of rule R203 answers, in terms of the verdicts alone. -/

namespace Sys2Proof.Machine

open Sys2Proof

/-- A bit of a slot's verdict, by the verdict. -/
theorem slotVerdict_isr_bit (r : SlotVerdict) (n : Nat) :
    r.isr.getLsbD n = true ↔
      (r = .badParity ∧ n = 3) ∨ (r = .readOnly ∧ n = 2) ∨ (r = .trustZone ∧ n = 6) := by
  by_cases hn : n < 8
  · cases r <;> interval_cases n <;> decide
  · have h0 : r.isr.getLsbD n = false := BitVec.getLsbD_of_ge _ _ (by omega)
    simp only [h0, Bool.false_eq_true, false_iff]
    rintro (⟨_, rfl⟩ | ⟨_, rfl⟩ | ⟨_, rfl⟩) <;> omega

/-- The loop authorizes exactly when some slot does (rule R209). -/
theorem scanSlots_ok_iff (v : Fin 20 → SlotVerdict) (l : List (Fin 20)) (m : Bool) (f : BitVec 8) :
    (scanSlots v l m f).ok = true ↔ ∃ i ∈ l, v i = .authorizes := by
  induction l generalizing m f with
  | nil => simp [scanSlots]
  | cons i rest ih =>
    simp only [scanSlots, List.mem_cons, exists_eq_or_imp]
    split
    · rename_i h
      simp [h]
    · rename_i h
      rw [ih]
      constructor
      · exact Or.inr
      · rintro (h' | h')
        · exact absurd h' h
        · exact h'

/-- MID_MISS after the loop: it was set before, or no slot matched (rule R210). -/
theorem scanSlots_miss_bit (v : Fin 20 → SlotVerdict) (l : List (Fin 20)) (m : Bool) (f : BitVec 8) :
    (scanSlots v l m f).isr.getLsbD 1 = true ↔
      f.getLsbD 1 = true ∨ (m = false ∧ ∀ i ∈ l, (v i).matched = false) := by
  induction l generalizing m f with
  | nil => cases m <;> simp [scanSlots, Cause.bit, Cause.code]
  | cons i rest ih =>
    have h1 : (v i).isr.getLsbD 1 = false := by cases v i <;> decide
    simp only [scanSlots, List.mem_cons, forall_eq_or_imp]
    split
    · rename_i h
      simp [h, SlotVerdict.matched]
    · rw [ih, BitVec.getLsbD_or, h1, Bool.or_false, Bool.or_eq_false_iff, and_assoc]

/-- Every other bit after the loop: it was set before, or the loop reaches a slot that sets it. -/
theorem scanSlots_reached_bit (v : Fin 20 → SlotVerdict) (l : List (Fin 20)) (hl : l.Pairwise (· < ·)) (m : Bool)
    (f : BitVec 8) {n : Nat} (hn : n ≠ 1) :
    (scanSlots v l m f).isr.getLsbD n = true ↔
      f.getLsbD n = true ∨
        ∃ i ∈ l, (∀ j ∈ l, j < i → v j ≠ .authorizes) ∧ (v i).isr.getLsbD n = true := by
  induction l generalizing m f with
  | nil =>
    have h0 : Cause.midMiss.bit.getLsbD n = false := by
      by_cases h8 : n < 8
      · interval_cases n <;> first | rfl | exact absurd rfl hn
      · exact BitVec.getLsbD_of_ge _ _ (by omega)
    cases m <;> simp [scanSlots, h0]
  | cons i rest ih =>
    obtain ⟨hlt, hrest⟩ := List.pairwise_cons.mp hl
    simp only [scanSlots]
    split
    · rename_i h
      refine ⟨Or.inl, ?_⟩
      rintro (hf | ⟨k, hk, hbefore, hbit⟩)
      · exact hf
      · rcases List.mem_cons.mp hk with rfl | hk
        · rw [h] at hbit
          simp [SlotVerdict.isr] at hbit
        · exact absurd h (hbefore i List.mem_cons_self (hlt k hk))
    · rename_i h
      rw [ih hrest, BitVec.getLsbD_or, Bool.or_eq_true, or_assoc]
      refine or_congr_right ?_
      constructor
      · rintro (hbit | ⟨k, hk, hbefore, hbit⟩)
        · refine ⟨i, List.mem_cons_self, ?_, hbit⟩
          intro j hj hji
          rcases List.mem_cons.mp hj with rfl | hj
          · exact absurd hji (lt_irrefl _)
          · exact absurd hji (lt_asymm (hlt j hj))
        · refine ⟨k, List.mem_cons_of_mem _ hk, ?_, hbit⟩
          intro j hj hjk
          rcases List.mem_cons.mp hj with rfl | hj
          · exact h
          · exact hbefore j hj hjk
      · rintro ⟨k, hk, hbefore, hbit⟩
        rcases List.mem_cons.mp hk with rfl | hk
        · exact Or.inl hbit
        · exact Or.inr ⟨k, hk, fun j hj hjk => hbefore j (List.mem_cons_of_mem _ hj) hjk, hbit⟩

/-- The conditions of a slot's verdict, as the rules' own terms. -/
theorem slotVerdict_eq (s : State) (e : Word) (id : BitVec 10) (w secure : Bool) (i : Fin 20) :
    s.slotVerdict e id w secure i =
      if e.getLsbD i = false then .notEnabled
      else if s.slotFails i then .badParity
      else if ¬s.slotMatches id i then .noMatch
      else if s.slotReadOnly w i then .readOnly
      else if secure = false ∧ e.getLsbD 27 = false then .trustZone
      else .authorizes := by
  have differs : (midField s.mid[i] &&& midmField s.mid[i] != id &&& midmField s.mid[i]) = true ↔
      ¬s.slotMatches id i := by
    simp only [midField, midmField, bne_iff_ne, ne_eq]
  simp only [State.slotVerdict, differs, Bool.not_eq_true', Bool.and_eq_true, ctrlMidParityEn, midrFlag, tzBit]

/-- The slot is skipped for its parity. -/
theorem slotVerdict_badParity_iff (s : State) (e : Word) (id : BitVec 10) (w secure : Bool) (i : Fin 20) :
    s.slotVerdict e id w secure i = .badParity ↔ e.getLsbD i = true ∧ s.slotFails i := by
  rw [slotVerdict_eq]
  split_ifs with h1 <;> simp only [true_iff, false_iff] <;> (try rw [Bool.not_eq_false] at h1) <;>
    first | tauto | simp [h1]

/-- The slot matches, is read-only and is hit by a write. -/
theorem slotVerdict_readOnly_iff (s : State) (e : Word) (id : BitVec 10) (w secure : Bool) (i : Fin 20) :
    s.slotVerdict e id w secure i = .readOnly ↔ s.slotHits e id i ∧ s.slotReadOnly w i := by
  rw [slotVerdict_eq]
  split_ifs with h1 <;> simp only [true_iff, false_iff] <;> (try rw [Bool.not_eq_false] at h1) <;>
    first | tauto | simp [h1]

/-- The slot matches and the trust-zone bit stops it. -/
theorem slotVerdict_trustZone_iff (s : State) (e : Word) (id : BitVec 10) (w secure : Bool) (i : Fin 20) :
    s.slotVerdict e id w secure i = .trustZone ↔
      s.slotHits e id i ∧ ¬s.slotReadOnly w i ∧ secure = false ∧ e.getLsbD 27 = false := by
  rw [slotVerdict_eq]
  split_ifs with h1 <;> simp only [true_iff, false_iff] <;> (try rw [Bool.not_eq_false] at h1) <;>
    first | tauto | simp [h1]

/-- The slot counts as a match exactly when it is enabled, passes parity and matches. -/
theorem slotVerdict_matched_iff (s : State) (e : Word) (id : BitVec 10) (w secure : Bool) (i : Fin 20) :
    (s.slotVerdict e id w secure i).matched = true ↔ s.slotHits e id i := by
  rw [slotVerdict_eq]
  split_ifs with h1 <;> simp only [SlotVerdict.matched, Bool.false_eq_true, true_iff, false_iff] <;>
    (try rw [Bool.not_eq_false] at h1) <;> first | tauto | simp [h1]

end Sys2Proof.Machine
end

