-- ==== Sys2Proof/Tests/Slice0.lean ====
section
/-! SUPPORT. Tests: the refusals of `Instr.wf`, the decoding of words written out from the encodings, one-step vectors of
spec/95_test_vectors.md, and a state and operands meeting the hypotheses of each statement. -/

namespace Sys2Proof.Tests

open Sys2Proof Sys2Proof.Machine

/-! ### Helpers -/

/-- The default instance after reset, with CTRL and its window enables, and with entries of the permission RAM. -/
def st (ctrl : BitVec 3) (entries : List (Nat × Word)) : State :=
  { State.reset with
    ctrl := ctrl
    winEn := WinEn.all (ctrl.getLsbD 0)
    ram := entries.foldl (fun m e => writeWord m (ramAddress e.1) e.2) [] }

/-- The Master-ID registers with register 0 replaced. -/
def withMid0 (v : Word) (s : State) : State := { s with mid := s.mid.set 0 v }

/-- The next state satisfies the test. -/
def next (r : Result) (p : State → Bool) : Bool :=
  match r with
  | .next t => p t
  | _ => false

/-- The instruction answers this word with response OK. -/
def reads (i : Instr) (s : State) (v : Word) : Bool := next (exec i s) fun t => t.answer == .read (v.setWidth 64) .ok

/-- The step refuses for this reason. -/
def refuses (r : Result) (why : Refusal) : Bool :=
  match r with
  | .refused w => w == why
  | _ => false

/-- The only downstream access went to this address. -/
def wentTo (a : Word) (t : State) : Bool := t.downstream.map (·.addr) == [a]

/-- Every 36-bit key, in its whole bytes, decodes to the instruction beside it. -/
def decodesAs (l : List (Nat × Instr)) : Bool := l.all fun p => decodeTableWord 40 p.1 == some p.2

/-- A configuration-window transaction. -/
def cfgAccess (write : Bool) (off : Word) (size : Nat) : Transaction :=
  { win := 0, write := write, off := off, size := size, atomic := false, masterId := 0, secure := true, data := 0 }

/-- A transaction through another window. -/
def through (win : BitVec 3) (off : Word) : Transaction := { cfgAccess false off 4 with win := win }

/-! ### Well-formedness: each check refuses an ill-formed term -/

theorem test_wf_hole_refuses_register : Instr.wf Config.default (.cfgRdHole 0x01C true) = false := by decide
theorem test_wf_hole_refuses_unaligned : Instr.wf Config.default (.cfgWrHole 0x022 true 0) = false := by decide
theorem test_wf_oor_refuses_hole : Instr.wf Config.default (.cfgRdOor 0x1F8 true) = false := by decide
theorem test_wf_oor_refuses_ram : Instr.wf Config.default (.cfgWrOor 0x1640 true 0) = false := by decide
theorem test_wf_oor_refuses_window_end : Instr.wf Config.default (.cfgRdOor 0x10000 true) = false := by decide
theorem test_wf_register_refuses_window_end :
    Instr.wf { Config.default with cfgWindowSize := 0x10 } (.cfgRdIsr true) = false := by decide
theorem test_wf_aperture_refuses_size : Instr.wf Config.default (.apRd64kb 0 3 0 true) = false := by decide
theorem test_wf_aperture_refuses_window_end : Instr.wf Config.default (.apRd32b 0xFFE 4 0 true) = false := by decide
theorem test_wf_aperture_refuses_top_of_space :
    apertureFits { Config.default.ap32b with base := 0xFFFFFFFC } 4 4 = false := by decide

/-! ### Decoding: every constructor from a word written out -/

/-- The register reads, key `(000, 0, off)` with the offset of each rule R102 to R138. -/
theorem test_decode_register_reads : decodesAs
  [ (0x000000000, .cfgRdCtrl true), (0x000000004, .cfgRdErrStatus1 true),
    (0x000000008, .cfgRdErrStatus2 true), (0x00000000C, .cfgRdPoison true), (0x000000010, .cfgRdIsr true),
    (0x000000014, .cfgRdImr true), (0x000000018, .cfgRdIen true), (0x00000001C, .cfgRdIds true),
    (0x00000003C, .cfgRdMMasterIds true), (0x000000040, .cfgRdMAperture32b true),
    (0x000000044, .cfgRdMAperture64kb true), (0x000000048, .cfgRdMAperture1mb true),
    (0x00000004C, .cfgRdMAperture512mb true), (0x000000050, .cfgRdBase32b true),
    (0x000000054, .cfgRdBase64kb true), (0x000000058, .cfgRdBase1mb true),
    (0x00000005C, .cfgRdBase512mb true), (0x0000000FC, .cfgRdEco true), (0x0000001FC, .cfgRdRamAdj true) ] = true := by decide

/-- The register writes, key `(000, 1, off)`. -/
theorem test_decode_register_writes : decodesAs
  [ (0x100000000, .cfgWrCtrl true 0), (0x100000004, .cfgWrErrStatus1 true 0),
    (0x100000008, .cfgWrErrStatus2 true 0), (0x10000000C, .cfgWrPoison true 0),
    (0x100000010, .cfgWrIsr true 0), (0x100000014, .cfgWrImr true 0), (0x100000018, .cfgWrIen true 0),
    (0x10000001C, .cfgWrIds true 0), (0x10000003C, .cfgWrMMasterIds true 0),
    (0x100000040, .cfgWrMAperture32b true 0), (0x100000044, .cfgWrMAperture64kb true 0),
    (0x100000048, .cfgWrMAperture1mb true 0), (0x10000004C, .cfgWrMAperture512mb true 0),
    (0x100000050, .cfgWrBase32b true 0), (0x100000054, .cfgWrBase64kb true 0),
    (0x100000058, .cfgWrBase1mb true 0), (0x10000005C, .cfgWrBase512mb true 0),
    (0x1000000FC, .cfgWrEco true 0), (0x1000001FC, .cfgWrRamAdj true 0) ] = true := by decide

/-- Offsets 0x100 + 4·i (rules R150 to R169). -/
theorem test_decode_master_id_reads : decodesAs
  [ (0x000000100, .cfgRdMasterId00 true), (0x000000104, .cfgRdMasterId01 true),
    (0x000000108, .cfgRdMasterId02 true), (0x00000010C, .cfgRdMasterId03 true),
    (0x000000110, .cfgRdMasterId04 true), (0x000000114, .cfgRdMasterId05 true),
    (0x000000118, .cfgRdMasterId06 true), (0x00000011C, .cfgRdMasterId07 true),
    (0x000000120, .cfgRdMasterId08 true), (0x000000124, .cfgRdMasterId09 true),
    (0x000000128, .cfgRdMasterId10 true), (0x00000012C, .cfgRdMasterId11 true),
    (0x000000130, .cfgRdMasterId12 true), (0x000000134, .cfgRdMasterId13 true),
    (0x000000138, .cfgRdMasterId14 true), (0x00000013C, .cfgRdMasterId15 true),
    (0x000000140, .cfgRdMasterId16 true), (0x000000144, .cfgRdMasterId17 true),
    (0x000000148, .cfgRdMasterId18 true), (0x00000014C, .cfgRdMasterId19 true) ] = true := by decide

/-- Offsets 0x100 + 4·i (rules R170 to R189). -/
theorem test_decode_master_id_writes : decodesAs
  [ (0x100000100, .cfgWrMasterId00 true 0), (0x100000104, .cfgWrMasterId01 true 0),
    (0x100000108, .cfgWrMasterId02 true 0), (0x10000010C, .cfgWrMasterId03 true 0),
    (0x100000110, .cfgWrMasterId04 true 0), (0x100000114, .cfgWrMasterId05 true 0),
    (0x100000118, .cfgWrMasterId06 true 0), (0x10000011C, .cfgWrMasterId07 true 0),
    (0x100000120, .cfgWrMasterId08 true 0), (0x100000124, .cfgWrMasterId09 true 0),
    (0x100000128, .cfgWrMasterId10 true 0), (0x10000012C, .cfgWrMasterId11 true 0),
    (0x100000130, .cfgWrMasterId12 true 0), (0x100000134, .cfgWrMasterId13 true 0),
    (0x100000138, .cfgWrMasterId14 true 0), (0x10000013C, .cfgWrMasterId15 true 0),
    (0x100000140, .cfgWrMasterId16 true 0), (0x100000144, .cfgWrMasterId17 true 0),
    (0x100000148, .cfgWrMasterId18 true 0), (0x10000014C, .cfgWrMasterId19 true 0) ] = true := by decide

/-- The first and last word of each permission-RAM sub-block (rules R192 to R199). -/
theorem test_decode_permission_ram : decodesAs
  [ (0x000001000, .cfgRdApl64kb 0 true), (0x0000013FC, .cfgRdApl64kb 255 true),
    (0x000001400, .cfgRdApl32b 0 true), (0x0000015FC, .cfgRdApl32b 127 true),
    (0x000001600, .cfgRdApl1mb 0 true), (0x00000163C, .cfgRdApl1mb 15 true),
    (0x000001640, .cfgRdApl512mb true), (0x100001028, .cfgWrApl64kb 10 true 0),
    (0x1000013FC, .cfgWrApl64kb 255 true 0), (0x100001400, .cfgWrApl32b 0 true 0),
    (0x1000015FC, .cfgWrApl32b 127 true 0), (0x100001604, .cfgWrApl1mb 1 true 0),
    (0x10000163C, .cfgWrApl1mb 15 true 0), (0x100001640, .cfgWrApl512mb true 0) ] = true := by decide

/-- The ends of the ranges of rules R87 and R88 (vectors V-HO1 and V-OOR1). -/
theorem test_decode_holes_and_out_of_range : decodesAs
  [ (0x000000020, .cfgRdHole 0x020 true), (0x100000038, .cfgWrHole 0x038 true 0),
    (0x100000060, .cfgWrHole 0x060 true 0), (0x0000000F8, .cfgRdHole 0x0F8 true),
    (0x000000150, .cfgRdHole 0x150 true), (0x0000001F8, .cfgRdHole 0x1F8 true),
    (0x000000200, .cfgRdOor 0x200 true), (0x100000FFC, .cfgWrOor 0xFFC true 0),
    (0x000001644, .cfgRdOor 0x1644 true), (0x10000FFFC, .cfgWrOor 0xFFFC true 0) ] = true := by decide

/-- The aperture keys of vectors V-AP1 and V-AP12 to V-AP14: window code, direction, offset (rules R71, R220 to R227). -/
theorem test_decode_apertures : decodesAs
  [ (0x200000FE0, .apRd32b 0xFE0 4 0 true), (0x300000000, .apWr32b 0 4 0 true 0),
    (0x4000A0ABC, .apRd64kb 0xA0ABC 4 0 true), (0x5000AFFF8, .apWr64kb 0xAFFF8 4 0 true 0),
    (0x6000FFFFC, .apRd1mb 0xFFFFC 4 0 true), (0x700F00004, .apWr1mb 0xF00004 4 0 true 0),
    (0x800000010, .apRd512mb 0x10 4 0 true), (0x91FFFFFFC, .apWr512mb 0x1FFFFFFC 4 0 true 0) ] = true := by decide

/-- Non-secure, atomic, size, master id and payload as the image has them (notes/assumptions/9.md). -/
theorem test_decode_image_operands :
    decodeTableWord 142
      (0x5000AFFF8 + 2 ^ 36 + (8 ^^^ 4) * 2 ^ 38 + 0x89ABCDEF * 2 ^ 46 + 0x1122334455667788 * 2 ^ 78) =
      some (.apWr64kb 0xAFFF8 8 0x89ABCDEF false 0x1122334455667788) := by decide
theorem test_decode_atomic_refused : decodeTableWord 142 (2 ^ 37) = none := by decide
theorem test_decode_reset : decodeTableWord 0 0 = some .reset := by decide
/-- V-RF1: a size of 2, an offset of 2, window code 101. -/
theorem test_decode_refusals :
    decodeTableWord 142 ((2 ^^^ 4) * 2 ^ 38) = none ∧ decodeTableWord 40 0x100000002 = none ∧
      decodeTableWord 40 0xA00000000 = none ∧ decodeTableWord 40 0x000010000 = none := by decide
/-- A step runs the word placed where it takes its next delivery (V-CR3). -/
theorem test_step_runs_fetch_word :
    next (step (State.reset.withFetchWord 40 0x00000000C)) (fun t => t.answer == .read 0x000FF9C0 .ok) = true := by
  decide
theorem test_step_runs_reset : next (step (State.reset.withFetchWord 0 0)) (fun t => t.poison == 0xFF9C0) = true := by
  decide

/-! ### One-step vectors of spec/95_test_vectors.md -/

/-- V-CR1. -/
theorem test_ctrl_stores_three_bits : next (exec (.cfgWrCtrl true 0xFFFFFFFF) State.reset)
    (fun t => t.ctrl == 7 && t.winEn == WinEn.all true && t.isr == 0) = true := by decide +kernel
theorem test_ctrl_read : reads (.cfgRdCtrl true) (st 5 []) 5 = true := by decide
/-- V-CR2. -/
theorem test_err_status_read_only : next (exec (.cfgWrErrStatus1 true 0xFFFFFFFF) State.reset)
    (fun t => t.errStatus1 == 0) && next (exec (.cfgWrErrStatus2 true 0x3FF) State.reset) (fun t => t.errStatus2 == 0) =
      true := by decide
theorem test_err_status_read : reads (.cfgRdErrStatus1 true) { State.reset with errStatus1 := 0xFF0A0 } 0x000FF0A0 &&
    reads (.cfgRdErrStatus2 true) { State.reset with errStatus2 := 0x041 } 0x41 = true := by decide
/-- V-CR3. -/
theorem test_poison_write_masked : next (exec (.cfgWrPoison true 0xFFF12345) State.reset)
    (fun t => t.poison == 0x12345) && reads (.cfgRdPoison true) State.reset 0x000FF9C0 = true := by decide
/-- V-CR4. -/
theorem test_capability_registers :
    reads (.cfgRdMMasterIds true) State.reset 0x14 && reads (.cfgRdMAperture32b true) State.reset 0x80 &&
      reads (.cfgRdMAperture64kb true) State.reset 0x100 && reads (.cfgRdMAperture1mb true) State.reset 0x10 &&
      reads (.cfgRdMAperture512mb true) State.reset 0x1 = true := by decide
/-- V-CR4. -/
theorem test_base_registers :
    reads (.cfgRdBase32b true) State.reset 0xFF990000 && reads (.cfgRdBase64kb true) State.reset 0xFF000000 &&
      reads (.cfgRdBase1mb true) State.reset 0xFE000000 && reads (.cfgRdBase512mb true) State.reset 0xC0000000 =
      true := by decide
theorem test_base_write_ignored : next (exec (.cfgWrBase32b true 0) State.reset) (fun t => t.cfg == Config.default) =
    true := by decide
/-- V-CR5. -/
theorem test_eco_and_ram_adj_store : next (exec (.cfgWrEco true 0xDEADBEEF) State.reset)
    (fun t => t.eco == 0xDEADBEEF) && next (exec (.cfgWrRamAdj true 0x12345678) State.reset)
      (fun t => t.ramAdj == 0x12345678) = true := by decide
theorem test_eco_and_ram_adj_read : reads (.cfgRdEco true) State.reset 0 &&
    reads (.cfgRdRamAdj true) { State.reset with ramAdj := 0x12345678 } 0x12345678 = true := by decide
/-- V-IS1. -/
theorem test_isr_write_one_clears : next (exec (.cfgWrIsr true 0xFFFFFFFE) { State.reset with isr := 0x23 })
    (fun t => t.isr == 0x01) && reads (.cfgRdIsr true) { State.reset with isr := 0x23 } 0x23 = true := by decide
/-- V-IM1. -/
theorem test_ien_clears_mask : next (exec (.cfgWrIen true 0xFF) State.reset) (fun t => t.imr == 0) = true := by decide
/-- V-IM1. -/
theorem test_ids_sets_mask : next (exec (.cfgWrIds true 0x21) { State.reset with imr := 0 }) (fun t => t.imr == 0x21) =
    true := by decide
/-- V-IM1. -/
theorem test_imr_ien_ids_reads : reads (.cfgRdImr true) State.reset 0xEF && reads (.cfgRdIen true) State.reset 0 &&
    reads (.cfgRdIds true) State.reset 0 && next (exec (.cfgWrImr true 0) State.reset) (fun t => t.imr == 0xEF) =
      true := by decide
/-- V-HO1. -/
theorem test_hole_sets_inv_apb : next (exec (.cfgWrHole 0x60 false 1) State.reset) (fun t => t.isr == 1) &&
    next (exec (.cfgRdHole 0x1F8 false) State.reset) (fun t => t.isr == 1 && t.answer == .read 0 .ok) = true := by decide
/-- V-OOR1. -/
theorem test_out_of_range_has_no_effect : next (exec (.cfgWrOor 0x1644 true 5) State.reset)
    (fun t => t.answer == .write .ok && t.isr == 0 && t.ram == []) && reads (.cfgRdOor 0xFFFC true) State.reset 0 =
      true := by decide
/-- V-NS1. -/
theorem test_non_secure_dropped : next (exec (.cfgWrPoison false 1) State.reset) (fun t => t.poison == 0xFF9C0) &&
    reads (.cfgRdMasterId00 false) State.reset 0 &&
    next (exec (.cfgWrApl64kb 0 false 0x98000001) State.reset) (fun t => t.ram == []) = true := by decide
/-- V-MID1. -/
theorem test_master_id_reset_values : reads (.cfgRdMasterId00 true) State.reset 0x83FF0040 &&
    reads (.cfgRdMasterId01 true) State.reset 0x03F00000 && reads (.cfgRdMasterId02 true) State.reset 0x83F00010 &&
    reads (.cfgRdMasterId03 true) State.reset 0x83C00080 && reads (.cfgRdMasterId19 true) State.reset 0 = true := by
  decide
/-- V-MID1: reserved bits 15:10 and 29:26 dropped. -/
theorem test_master_id_write_masked : next (exec (.cfgWrMasterId05 true 0xFFFFFFFF) State.reset)
    (fun t => t.mid[5] == 0xC3FF03FF && t.mid[4] == 0 && t.mid[6] == 0) = true := by decide
/-- V-MP2. -/
theorem test_master_id_write_revalidates : next (exec (.cfgWrMasterId04 true 0x03FF0100) (st 2 []))
    (fun t => t.isr == 0x08) && next (exec (.cfgWrMasterId04 true 0x83FF0100) (st 2 [])) (fun t => t.isr == 0) =
      true := by decide
/-- V-MP2 at register 0: CTRL re-validates all registers. -/
theorem test_ctrl_write_revalidates : next (exec (.cfgWrCtrl true 2) (withMid0 0x03FF0100 State.reset))
    (fun t => t.isr == 0x08) = true := by decide +kernel
/-- V-MP1. -/
theorem test_master_id_parity : [0x83FF0100#32, 0x43FF0100#32, 0x83F00200#32, 0xC3FF03FF#32].all midParityOk =
    true := by decide
/-- V-PA1, row by row, and a word with reserved bits. -/
theorem test_apl_parity_good :
    [0x00000000#32, 0x98000001#32, 0x88000000#32, 0x10000001#32, 0x88000003#32, 0x88000006#32, 0x98000008#32,
      0x10000008#32, 0x9800000E#32, 0x0000000F#32, 0x10000010#32, 0x98000010#32, 0x00000011#32, 0x88000011#32,
      0x20000020#32, 0xB8000030#32, 0xC8000400#32, 0x80008000#32, 0x08008000#32, 0x80080000#32, 0x08080000#32,
      0x780FFFFF#32, 0xF00FFFFF#32, 0x98700001#32].all aplParityOk = true := by decide
/-- V-PA2. -/
theorem test_apl_parity_bad : [0x00000001#32, 0x08000000#32, 0x98000000#32].any aplParityOk = false := by decide
/-- V-RAM1. -/
theorem test_permission_ram_write : next (exec (.cfgWrApl512mb true 0xFFFFFFFF) State.reset)
    (fun t => t.ram == [(0x1640, 0xFF), (0x1641, 0xFF), (0x1642, 0xFF), (0x1643, 0xFF)]) &&
    next (exec (.cfgWrApl1mb 1 true 0x0000000F) State.reset) (fun t => t.ram == [(0x1604, 0x0F)]) = true := by decide
/-- V-RAM1. -/
theorem test_permission_ram_read : reads (.cfgRdApl64kb 255 true) (st 0 [(255, 0x98000008)]) 0x98000008 &&
    reads (.cfgRdApl1mb 1 true) (st 0 [(385, 0xF)]) 0xF && reads (.cfgRdApl512mb true) (st 0 [(400, 5)]) 5 &&
    reads (.cfgRdApl32b 0 true) (st 0 [(255, 1), (256, 7)]) 7 = true := by decide
/-- V-AP1. -/
theorem test_ap_forward : next (exec (.apWr64kb 0x0AFFF8 8 0x040 true 0x1122334455667788) (st 1 [(10, 0x98000001)]))
    (fun t => t.isr == 0 &&
      t.downstream == [⟨0xFF0AFFF8, 8, .write 0x1122334455667788, 0x040, true⟩]) = true := by decide
/-- V-AP2. -/
theorem test_ap_mid_miss : next (exec (.apRd64kb 0x0A0ABC 4 0x041 true) (st 1 [(10, 0x98000001)]))
    (fun t => wentTo 0xFF9C0ABC t && t.isr == 0x22 && t.errStatus1 == 0xFF0A0 && t.errStatus2 == 0x041) = true := by
  decide
/-- V-AP3. -/
theorem test_ap_trust_zone : next (exec (.ap .ap64kb 0x0A0ABC 4 .read 0x040 false) (st 1 [(10, 0x10000001)]))
    (fun t => wentTo 0xFF9C0ABC t && t.isr == 0x60) = true := by decide
/-- V-AP4. -/
theorem test_ap_read_only_slot :
    next (exec (.ap .ap64kb 0x0A0010 4 (.write 5) 0x040 true) (withMid0 0x43FF0040 (st 1 [(10, 0x98000001)])))
      (fun t => wentTo 0xFF9C0010 t && t.isr == 0x24) = true := by decide
/-- V-AP5. -/
theorem test_ap_entry_parity : next (exec (.ap .ap64kb 0x0A0010 4 .read 0x040 true) (st 5 [(10, 0x00000001)]))
    (fun t => wentTo 0xFF9C0010 t && t.isr == 0xA0) = true := by decide
/-- V-AP6. -/
theorem test_ap_slot_parity_no_match :
    next (exec (.ap .ap64kb 0x0A0010 4 .read 0x040 true) (withMid0 0x03FF0040 (st 3 [(10, 0x98000001)])))
      (fun t => t.isr == 0x2A) = true := by decide
/-- V-AP7. -/
theorem test_ap_slot_parity_then_match :
    next (exec (.ap .ap64kb 0x0A0010 4 .read 0x040 true) (withMid0 0x03FF0040 (st 3 [(10, 0x88000011)])))
      (fun t => wentTo 0xFF0A0010 t && t.isr == 0x08) = true := by decide
/-- V-AP8: the second fault with the first pending. -/
theorem test_ap_second_fault_not_latched :
    next (exec (.ap .ap64kb 0x0B2000 4 (.write 1) 0x042 true)
      { st 1 [(11, 0x98000001)] with isr := 0x22, errStatus1 := 0xFF0A1, errStatus2 := 0x041 })
      (fun t => t.isr == 0x22 && t.errStatus1 == 0xFF0A1 && t.errStatus2 == 0x041) = true := by decide
/-- V-AP10. -/
theorem test_ap_not_decoded :
    exec (.apWr512mb 0 4 0 true 1) State.reset = .next { State.reset with answer := .notDecoded } := rfl
/-- V-AP11. -/
theorem test_ap_inv_apb_does_not_block :
    next (exec (.ap .ap64kb 0x0A0123 1 .read 0x041 true) { st 1 [(10, 0x98000001)] with isr := 0x01 })
      (fun t => t.isr == 0x23 && t.errStatus1 == 0xFF0A0) = true := by decide
/-- V-AP12. -/
theorem test_ap_32b : next (exec (.apRd32b 0xFE0 4 0x040 true) (st 1 [(383, 0x98000001)])) (wentTo 0xFF990FE0) &&
    next (exec (.apWr32b 0x1E 4 0x010 true 0) (st 1 [(256, 0x98000004)])) (wentTo 0xFF99001E) = true := by decide
/-- V-AP12: the next region's entry is 0. -/
theorem test_ap_32b_next_region : next (exec (.apRd32b 0x20 4 0x010 true) (st 1 [(256, 0x98000004)]))
    (fun t => wentTo 0xFF9C0020 t && t.errStatus1 == 0xFF990) = true := by decide
/-- V-AP13. -/
theorem test_ap_1mb : next (exec (.apWr1mb 0xF00004 4 0x200 false 1) (st 1 [(399, 0x780FFFFF)])) (wentTo 0xFEF00004) &&
    next (exec (.apRd1mb 0x0FFFFC 4 0x0A5 false) (st 1 [(384, 0x98000008)])) (wentTo 0xFE0FFFFC) = true := by decide
/-- V-AP14. -/
theorem test_ap_512mb : next (exec (.apWr512mb 0x1FFFFFFC 4 0x040 true 1) (st 1 [(400, 0x98000001)]))
    (wentTo 0xDFFFFFFC) && next (exec (.apRd512mb 0x10 4 0x440 true) (st 1 [(400, 0x98000001)])) (wentTo 0xC0000010) =
      true := by decide
/-- V-AP14: id[9:0] of 0x7FF. -/
theorem test_ap_512mb_id : next (exec (.apRd512mb 0x10 4 0x7FF true) (st 1 [(400, 0x98000001)]))
    (fun t => t.isr == 0x22 && t.errStatus1 == 0xC0000 && t.errStatus2 == 0x3FF) = true := by decide
/-- V-AP17. -/
theorem test_ap_two_causes :
    next (exec (.ap .ap64kb 0x0A0000 4 (.write 1) 0x040 false) (withMid0 0x43FF0040 (st 1 [(10, 0x00000011)])))
      (fun t => t.isr == 0x64) = true := by decide
/-- V-AP18. -/
theorem test_ap_read_only_before_trust_zone :
    next (exec (.ap .ap64kb 0x0A0000 4 (.write 1) 0x040 false) (withMid0 0x43FF0040 (st 1 [(10, 0x10000001)])))
      (fun t => t.isr == 0x24) = true := by decide
/-- V-IRQ1. -/
theorem test_irq : State.irq { State.reset with isr := 0x22, imr := 0xED } &&
    !State.irq { State.reset with isr := 0x22 } && State.irq { State.reset with isr := 0x01, imr := 0xCE } &&
    !State.irq { State.reset with isr := 0x02, imr := 0xCF } = true := by decide
/-- V-RS1. -/
theorem test_reset_restores :
    exec .reset { st 7 [(10, 0x98000001)] with isr := 0x22, poison := 1, eco := 5, imr := 0 } =
      .next (State.afterReset Config.default 1) := rfl
/-- An instance with a wider configuration window and a larger RAM array (rules R6, R28, R51). -/
theorem test_parameters_window_and_array :
    let c := { Config.default with nrApl := 402, cfgWindowSize := 0x20000 }
    (decode c (.transaction (cfgAccess false 0x1FFFC 4)) matches .ok (.cfgRdOor 0x1FFFC true)) = true ∧
      (decode c (.transaction (cfgAccess false 0x20000 4)) matches .error .notThisBlock) = true ∧
      next (exec (.cfgWrOor 0x1644 true 5) { State.reset with cfg := c }) (fun t => t.ram == [(0x1644, 5)]) = true ∧
      next (exec (.cfgWrApl512mb true 5) { State.reset with cfg := { c with nrApl := 400 } }) (fun t => t.ram == []) =
        true := by decide
/-- V-RF1: the size, the window's end. -/
theorem test_aperture_range_refused : exec (.apRd32b 0xFFE 4 0 true) State.reset = .refused .apertureRange ∧
    exec (.apRd512mb 0x1FFFFFFE 4 0 true) State.reset = .refused .apertureRange ∧
    exec (.apRd64kb 0 3 0 true) State.reset = .refused .apertureRange := ⟨rfl, rfl, rfl⟩

/-! ### Witnesses: a concrete state and operands meeting the hypotheses of each statement -/

/-- `DecodeOfEncodeIsIdentity` and `ImageOfEncodeDecodesBack`, at the ends of the ranges. -/
theorem test_witness_wellFormed :
    Instr.wf Config.default (.cfgWrHole 0x1F8 false 7) = true ∧ Instr.wf Config.default (.cfgRdHole 0x020 true) = true ∧
      Instr.wf Config.default (.cfgRdOor 0x200 true) = true ∧ Instr.wf Config.default (.cfgRdOor 0xFFFC true) = true ∧
      Instr.wf Config.default (.apRd32b 0xFF8 8 0 true) = true ∧
      Instr.wf Config.default (.apWr512mb 0x1FFFFFFF 1 0 true 0) = true ∧
      Instr.wf Config.default (.cfgWrApl512mb true 1) = true ∧ Instr.cfgWrApl512mb true 1 ≠ .reset := by decide
/-- `ConfigOffsetsPartition`: each clause on both sides of its range. -/
theorem test_witness_configOffsets :
    [0x20#32, 0x38#32, 0x60#32, 0xF8#32, 0x150#32, 0x1F8#32].all (fun o => o.extractLsb' 0 2 == 0#2 &&
        decode Config.default (.transaction (cfgAccess false o 4)) matches .ok (.cfgRdHole _ true)) = true ∧
      [0x200#32, 0xFFC#32, 0x1644#32, 0xFFFC#32].all (fun o =>
        decode Config.default (.transaction (cfgAccess true o 4)) matches .ok (.cfgWrOor _ true 0)) = true ∧
      [0x10000#32, 0xFFFFFFFC#32].all (fun o =>
        decode Config.default (.transaction (cfgAccess true o 4)) matches .error .notThisBlock) = true ∧
      [0x1C#32, 0x3C#32, 0x5C#32, 0xFC#32, 0x14C#32, 0x1FC#32, 0x1000#32, 0x1640#32].any (fun o =>
        decode Config.default (.transaction (cfgAccess false o 4)) matches
          .ok (.cfgRdHole _ _) | .ok (.cfgRdOor _ _) | .error _) = false := by decide
/-- `AtomicTransactionIsRefused`. -/
theorem test_witness_atomic :
    ∃ s : State, s.inbox = [.transaction { cfgAccess true 0x10 4 with atomic := true }] ∧
      step s = .refused .atomicAttribute := ⟨{ State.reset with inbox := _ }, rfl, rfl⟩
/-- `NonWordConfigAccessIsRefused`: a size, and an offset. -/
theorem test_witness_nonWord :
    (cfgAccess false 0 2).atomic = false ∧ (cfgAccess false 0 2).win = 0#3 ∧ (cfgAccess false 0 2).size ≠ 4 ∧
      (cfgAccess false 2 4).win = 0#3 ∧ (cfgAccess false 2 4).off.extractLsb' 0 2 ≠ 0#2 ∧
      refuses (step { State.reset with inbox := [.transaction (cfgAccess false 2 4)] }) .cfgSizeOrAlignment = true := by
  decide
/-- `ForeignKeyIsRefused`: each window code, and the first and last word past the configuration window. -/
theorem test_witness_foreign :
    [through 5 0, through 6 0, through 7 0xFFFFFFFF, cfgAccess false 0x10000 4, cfgAccess true 0xFFFFFFFC 4].all
      (fun t => refuses (step { State.reset with inbox := [.transaction t] }) .notThisBlock) = true := by decide
/-- `ApertureAdmissionIsThreeConditions`: an admitted access at the end of the window, and one past it. -/
theorem test_witness_admission : apertureFits Config.default.ap64kb 0xFFFFF8 8 = true ∧
    apertureFits Config.default.ap64kb 0xFFFFF9 8 = false ∧ apertureFits Config.default.ap64kb 0 0 = false := by decide
/-- `StepRunsDecodedInstruction` and `StepKeepsConfigurationAndQueue`. -/
theorem test_witness_step :
    ∃ (s t : State) (d : Delivery), s.inbox = [d] ∧ decode s.cfg d = .ok (.cfgRdCtrl true) ∧ step s = .next t :=
  ⟨{ State.reset with inbox := [.transaction (cfgAccess false 0 4)] }, _, _, rfl, rfl, rfl⟩
/-- `IdleStepChangesNothing`. -/
theorem test_witness_idle : State.reset.inbox = [] := by decide
/-- `StepKeepsInv`, `InvExcludesFaults` and `WindowEnablesFollowCtrl`. -/
theorem test_witness_inv :
    ∃ s t : State, s.Inv ∧ (∀ a, s.winEn.get a = s.ctrl.getLsbD 0) ∧ step s = .next t :=
  ⟨{ st 1 [] with inbox := [.transaction (cfgAccess true 0 4)] }, _,
    ⟨by decide, by decide, by decide, by decide, by decide, by decide, by decide⟩, fun a => by cases a <;> decide, rfl⟩
/-- `WindowEnablesFollowCtrl` of `exec`. -/
theorem test_witness_windowEnables :
    ∃ t : State, (∀ a, State.reset.winEn.get a = State.reset.ctrl.getLsbD 0) ∧
      exec (.cfgWrCtrl true 1) State.reset = .next t := ⟨_, fun a => by cases a <;> decide, rfl⟩
/-- The transactions of `ReadsAs` and `WritesAs`: one register read, one register write, the last permission-RAM word. -/
theorem test_witness_admitted :
    (cfgAccess false 0x0FC 4).key = 0x0000000FC#36 ∧ (cfgAccess true 0x14C 4).key = 0x10000014C#36 ∧
      (cfgAccess false 0x1640 4).key = 0x000001640#36 ∧ (cfgAccess false 0x0FC 4).atomic = false ∧
      (cfgAccess true 0x14C 4).size = 4 ∧
      (cfgAccess false 0x1640 4).off.toNat < Config.default.cfgWindowSize := by decide
/-- `IdsThenIenRestoresClearBits` (V-IM2). -/
theorem test_witness_idsThenIen :
    ∃ s t u : State, exec (.cfgWrIds true 0x40) s = .next t ∧ exec (.cfgWrIen true 0x40) t = .next u ∧
      ∀ n, n < 8 → (0x40#32).getLsbD n = true → s.imr.getLsbD n = false :=
  ⟨{ State.reset with imr := 0 }, _, _, rfl, rfl, fun n _ _ => by simp⟩
/-- `NonSecureConfigAccessIsDropped`: a read and a write. -/
theorem test_witness_nonSecure : (Instr.cfgRdMasterId19 false).kind = .defined false false ∧
    (Instr.cfgWrApl512mb false 1).kind = .defined true false ∧
    (Instr.cfgRdOor 0x200 false).kind = .outOfRange false false := by decide
/-- `ConfigAccessCompletesOk` and the first clause of `OneDownstreamAccessPerForward`. -/
theorem test_witness_configAccess :
    ∃ t : State, (∀ b, (Instr.cfgWrHole 0x20 true 0).kind ≠ .aperture b) ∧ Instr.cfgWrHole 0x20 true 0 ≠ .reset ∧
      exec (.cfgWrHole 0x20 true 0) State.reset = .next t :=
  ⟨_, fun b => by simp [Instr.kind], by decide, rfl⟩
/-- `PermissionRamReads` and `PermissionRamWrites`: the ends of the four sub-blocks. -/
theorem test_witness_ramWrites : (st 1 [(0, 1), (400, 0x80000000)]).ram.wf = true ∧
    [0, 255, 256, 383, 384, 399, 400].all (fun k => decide (k < State.reset.cfg.nrApl)) = true ∧
    [(0x1000#32, 0x100001000#36), (0x13FC#32, 0x1000013FC#36), (0x15FC#32, 0x1000015FC#36), (0x163C#32, 0x10000163C#36),
      (0x1640#32, 0x100001640#36)].all (fun p => (cfgAccess true p.1 4).key == p.2 &&
        decide ((cfgAccess true p.1 4).off.toNat < Config.default.cfgWindowSize)) = true := by decide
/-- `PermissionRamWritesCommute`: two entries of different sub-blocks, the first and the last that have one. -/
theorem test_witness_ramWritesCommute : State.reset.ram.wf = true ∧ 0 ≠ 400 ∧ 0x1000 + 4 * 0 < 2 ^ 32 ∧
    0x1000 + 4 * 400 < 2 ^ 32 ∧ (Instr.wrEntry 255 true 1, Instr.wrEntry 256 true 1, Instr.wrEntry 384 true 1,
      Instr.wrEntry 400 true 1, Instr.wrEntry 401 true 1) =
      (.cfgWrApl64kb 255 true 1, .cfgWrApl32b 0 true 1, .cfgWrApl1mb 0 true 1, .cfgWrApl512mb true 1,
        .cfgWrOor 0x1644 true 1) := by decide
/-- `PermissionRamHasNrAplWords`: an entry the instance has not, and one past the sub-blocks. -/
theorem test_witness_ramSize :
    (∃ s : State, s.cfg.nrApl ≤ 400 ∧ ∃ j : BitVec 4, 384 + j.toNat = 399 ∧ s.cfg.nrApl ≤ 399) ∧
      ∃ s : State, (0x1644#32).toNat = 0x1000 + 4 * 401 ∧ 401 < s.cfg.nrApl ∧ s.ram.wf = true :=
  ⟨⟨{ State.reset with cfg := { Config.default with nrApl := 399 } }, by decide, 15, by decide, by decide⟩,
    ⟨{ State.reset with cfg := { Config.default with nrApl := 402 } }, by decide, by decide, by decide⟩⟩
/-- `OutOfRangeAccessHasNoEffect`: the last word below the permission-RAM window, the first past its array. -/
theorem test_witness_outOfRange : (0xFFC#32).toNat < 0x1000 ∧
    0x1000 + 4 * State.reset.cfg.nrApl ≤ (0x1644#32).toNat := by decide
/-- `ResetHasInv`: an instance that is not the default one. -/
theorem test_witness_resetInv : Config.wf { Config.default with nrApl := 402, imrReset := 0xFF } = true := by decide
/-- `RejectionRecordsACause`: a check that rejects. -/
theorem test_witness_rejection : (State.checkPermission { st 1 [] with isr := 0 } 0 0 false true).ok = false := by decide
/-- `AplIndexStaysInAperture`: every default row. -/
theorem test_witness_aplIndex : Config.default.ap32b.wf 401 = true ∧ Config.default.ap64kb.wf 401 = true ∧
    Config.default.ap1mb.wf 401 = true ∧ Config.default.ap512mb.wf 401 = true := by decide
/-- `ApertureAccessForwardsOrPoisons`: an authorized access, a rejected one that is latched, and one that is not. -/
theorem test_witness_apertureAccess :
    (st 1 [(10, 0x98000001)]).cfg.wf = true ∧ apertureFits ((st 1 []).cfg.aperture .ap64kb) 0x0A0ABC 4 = true ∧
      (st 1 [(10, 0x98000001)]).winEn.get .ap64kb = true ∧
      (st 1 [(10, 0x98000001)]).authorized ((st 1 [(10, 0x98000001)]).entryFor .ap64kb 0x0A0ABC) 0x040 false true ∧
      ¬(st 1 [(10, 0x98000001)]).authorized ((st 1 [(10, 0x98000001)]).entryFor .ap64kb 0x0A0ABC) 0x041 false true ∧
      (st 1 [(10, 0x98000001)]).latchFree ∧ ¬({ st 1 [] with isr := 0x02 } : State).latchFree := by decide
/-- `DisabledWindowIsNotDecoded`, at the end of each window. -/
theorem test_witness_disabledWindow :
    State.reset.winEn.get .ap32b = false ∧ apertureFits (State.reset.cfg.aperture .ap32b) 0xFFC 4 = true ∧
      State.reset.winEn.get .ap512mb = false ∧ apertureFits (State.reset.cfg.aperture .ap512mb) 0x1FFFFFF8 8 = true := by
  decide
/-- `CleanlyAuthorizedAccessLeavesIsr`: slot 1 authorizes, slot 0 is enabled and does not match. -/
theorem test_witness_clean :
    let s := st 3 [(10, 0x88000003)]
    s.cfg.wf = true ∧ apertureFits (s.cfg.aperture .ap64kb) 0x0A0000 4 = true ∧ s.winEn.get .ap64kb = true ∧
      ¬s.entryFails (s.entryFor .ap64kb 0x0A0000) ∧
      s.slotAdmits (s.entryFor .ap64kb 0x0A0000) ((0x00F#32).extractLsb' 0 10) false false 1 ∧
      ∀ j : Fin 20, j < 1 → (s.entryFor .ap64kb 0x0A0000).getLsbD j = false ∨
        (¬s.slotFails j ∧ ¬s.slotMatches ((0x00F#32).extractLsb' 0 10) j) := by decide +kernel
/-- `BadEntryParityRejects` (V-AP5). -/
theorem test_witness_badEntryParity :
    ∃ s t : State, s.cfg.wf = true ∧ apertureFits (s.cfg.aperture .ap64kb) 0x0A0010 4 = true ∧
      s.winEn.get .ap64kb = true ∧ s.entryFails (s.entryFor .ap64kb 0x0A0010) ∧
      exec (.ap .ap64kb 0x0A0010 4 .read 0x040 true) s = .next t :=
  ⟨st 5 [(10, 1)], _, by decide, by decide, by decide, by decide, rfl⟩
/-- `NonSecureNeedsTrustZoneBit` (V-AP3), with the inner hypotheses. -/
theorem test_witness_trustZone :
    ∃ s t : State, s.cfg.wf = true ∧ apertureFits (s.cfg.aperture .ap64kb) 0x0A0ABC 4 = true ∧
      s.winEn.get .ap64kb = true ∧ (s.entryFor .ap64kb 0x0A0ABC).getLsbD 27 = false ∧
      exec (.ap .ap64kb 0x0A0ABC 4 .read 0x040 false) s = .next t ∧ ¬s.entryFails (s.entryFor .ap64kb 0x0A0ABC) ∧
      ∃ i : Fin 20, s.slotHits (s.entryFor .ap64kb 0x0A0ABC) ((0x040#32).extractLsb' 0 10) i ∧
        ¬s.slotReadOnly false i :=
  ⟨st 1 [(10, 0x10000001)], _, by decide, by decide, by decide, by decide, rfl, by decide, by decide⟩
/-- `EmptyMaskMissesEveryMaster`. -/
theorem test_witness_emptyMask :
    ∃ s t : State, s.cfg.wf = true ∧ apertureFits (s.cfg.aperture .ap1mb) 0x100000 4 = true ∧
      s.winEn.get .ap1mb = true ∧ (s.entryFor .ap1mb 0x100000).extractLsb' 0 20 = 0#20 ∧
      ¬s.entryFails (s.entryFor .ap1mb 0x100000) ∧ exec (.ap .ap1mb 0x100000 4 .read 0x0A5 true) s = .next t :=
  ⟨st 1 [], _, by decide, by decide, by decide, by decide, by decide, rfl⟩
/-- `ParityFailedSlotIsOpaque`: register 0 fails its parity in both tables, with different fields. -/
theorem test_witness_parityFailed :
    let s := withMid0 0x03FF0040 (st 3 [])
    let mids := s.mid.set 0 0x03FF0100
    mids ≠ s.mid ∧ ∀ i : Fin 20, mids[i] = s.mid[i] ∨ (s.slotFails i ∧ ({ s with mid := mids } : State).slotFails i) := by
  decide +kernel
/-- `MasterIdHighBitsDoNotMatter`, `ApertureAccessFrame` and the second clause of `OneDownstreamAccessPerForward`. -/
theorem test_witness_apertureNext :
    ∃ s t : State, (0x440#32).extractLsb' 0 10 = (0x040#32).extractLsb' 0 10 ∧ s.winEn.get .ap512mb = true ∧
      exec (.ap .ap512mb 0x10 4 .read 0x440 true) s = .next t :=
  ⟨st 1 [(400, 0x98000001)], _, by decide, by decide, rfl⟩
/-- `IsrBitsAreSticky`. -/
theorem test_witness_sticky :
    ∃ s t : State, exec (.cfgWrIsr true 0x80) s = .next t ∧ s.isr.getLsbD 7 = true ∧ t.isr.getLsbD 7 = false :=
  ⟨{ State.reset with isr := 0x80 }, _, rfl, by decide, by decide⟩
/-- `IsrBitsAreSticky`, its second clause: the lowest and the highest code. -/
theorem test_witness_stickyCause : ({ State.reset with isr := 0x81 } : State).isr.getLsbD Cause.invApb.code = true ∧
    ({ State.reset with isr := 0x81 } : State).isr.getLsbD Cause.aperParity.code = true := by decide
/-- `FirstFaultIsKept`: a second rejected access. -/
theorem test_witness_firstFault :
    ∃ s t : State, s.isr &&& s.cfg.latchBlockMask ≠ 0#8 ∧
      (∀ d, Instr.ap .ap1mb 0 4 .read 0x0A5 true ≠ .cfgWrIsr true d) ∧ Instr.ap .ap1mb 0 4 .read 0x0A5 true ≠ .reset ∧
      exec (.ap .ap1mb 0 4 .read 0x0A5 true) s = .next t :=
  ⟨{ st 1 [] with isr := 0x22 }, _, by decide, fun d => by simp [Instr.ap], by decide, rfl⟩
/-- `AcknowledgeRearmsTheLatch` (V-AP8). -/
theorem test_witness_acknowledge :
    ∃ s t u : State, exec (.cfgWrIsr true 0x22) s = .next t ∧
      s.isr &&& ~~~((0x22#32).extractLsb' 0 8 &&& 0xEF#8) &&& s.cfg.latchBlockMask = 0#8 ∧ s.cfg.wf = true ∧
      apertureFits (s.cfg.aperture .ap64kb) 0x0B2000 4 = true ∧ s.winEn.get .ap64kb = true ∧
      ¬t.authorized (s.entryFor .ap64kb 0x0B2000) ((0x042#32).extractLsb' 0 10) true true ∧
      exec (.ap .ap64kb 0x0B2000 4 (.write 1) 0x042 true) t = .next u :=
  ⟨{ st 1 [(11, 0x98000001)] with isr := 0x22 }, _, _, rfl, by decide, by decide, by decide, by decide, by decide, rfl⟩
/-- `NonSecureDeliveryChangesNoProtection` and `NonSecureConfigAnswerIsConstant`. -/
theorem test_witness_nonSecureDelivery :
    ∃ t t' : State, (Instr.cfgRdPoison false).kind.secure = some false ∧
      (∀ b, (Instr.cfgRdPoison false).kind ≠ .aperture b) ∧ exec (.cfgRdPoison false) State.reset = .next t ∧
      exec (.cfgRdPoison false) { State.reset with poison := 1 } = .next t' :=
  ⟨_, _, by decide, fun b => by simp [Instr.kind], rfl, rfl⟩
/-- `RegistersChangeOnlyAsTheirRulesSay`: each clause has an operation that changes its register. -/
theorem test_witness_registersChange :
    next (exec (.cfgWrCtrl true 1) State.reset) (fun t => t.ctrl != State.reset.ctrl) &&
      next (exec (.ap .ap1mb 0 4 .read 0x0A5 true) (st 1 [])) (fun t => t.errStatus1 != 0 && t.errStatus2 != 0) &&
      next (exec (.cfgWrPoison true 1) State.reset) (fun t => t.poison != State.reset.poison) &&
      next (exec (.cfgWrIen true 1) State.reset) (fun t => t.imr != State.reset.imr) &&
      next (exec (.cfgWrEco true 1) State.reset) (fun t => t.eco != State.reset.eco) &&
      next (exec (.cfgWrRamAdj true 1) { State.reset with ramAdj := 0 }) (fun t => t.ramAdj != 0) &&
      next (exec (.cfgRdHole 0x20 false) State.reset) (fun t => !State.reset.isr.getLsbD 0 && t.isr.getLsbD 0) &&
      next (exec (.cfgWrIsr true 0x80) { State.reset with isr := 0x80 }) (fun t => !t.isr.getLsbD 7) = true := by decide +kernel
/-- `TablesChangeOnlyAsTheirRulesSay`: each clause has an operation that changes its table. -/
theorem test_witness_tablesChange :
    next (exec (.cfgWrMasterId19 true 1) State.reset) (fun t => t.mid != State.reset.mid) &&
      next (exec (.cfgWrCtrl true 1) State.reset) (fun t => t.winEn != State.reset.winEn) &&
      next (exec (.cfgWrApl512mb true 1) State.reset) (fun t => t.ram != State.reset.ram) &&
      next (exec (.cfgWrOor 0x1644 true 1) { State.reset with cfg := { Config.default with nrApl := 402 } })
        (fun t => t.ram != State.reset.ram) = true := by decide +kernel

end Sys2Proof.Tests
end

section
/-! PROOFS. Steps, the decoder by configuration offset, and the number of permission-RAM words. -/

namespace Sys2Proof

/-! ### The fields of a key (rule R70) -/

/-- The key as a number. -/
theorem Transaction.key_toNat (t : Transaction) :
    t.key.toNat = t.win.toNat * 2 ^ 33 + t.write.toNat * 2 ^ 32 + t.off.toNat := by
  have hoff := t.off.isLt
  have hwrite : t.write.toNat < 2 ^ 1 := t.write.toNat_lt
  rw [Transaction.key, BitVec.toNat_append, BitVec.toNat_append, BitVec.toNat_ofBool,
    ← Nat.shiftLeft_add_eq_or_of_lt hwrite, ← Nat.shiftLeft_add_eq_or_of_lt hoff]
  simp only [Nat.shiftLeft_eq]
  ring

/-- The window code stands in bits 35:33. -/
theorem Transaction.key_window (t : Transaction) : t.key.extractLsb' 33 3 = t.win := by
  apply BitVec.eq_of_toNat_eq
  have hoff := t.off.isLt
  have hwin := t.win.isLt
  have hwrite : t.write.toNat < 2 ^ 1 := t.write.toNat_lt
  rw [BitVec.extractLsb'_toNat, Transaction.key_toNat, Nat.shiftRight_eq_div_pow]
  omega

/-- The offset stands in bits 31:0. -/
theorem Transaction.key_offset (t : Transaction) : t.key.setWidth 32 = t.off :=
  BitVec.setWidth_append_eq_right

/-- An offset is aligned when it is a multiple of 4 (rule R54). -/
theorem aligned_iff (off : Word) : off.extractLsb' 0 2 = 0#2 ↔ off.toNat % 4 = 0 := by
  rw [← BitVec.toNat_inj, BitVec.extractLsb'_toNat]
  simp

/-! ### The rows of the decode table (rule R72) -/

/-- The test of rule R72, `(key & mask) == match`. -/
abbrev rowMatches (key : BitVec 36) (r : OpRow) : Bool := key &&& r.mask == r.pattern

/-- The rows of the configuration registers and of the Master-ID registers: one key each. -/
def exactRows : List OpRow := registerRows ++ masterIdRows

/-- The first matching row, family by family. -/
theorem lookup_eq (key : BitVec 36) :
    lookup key = (exactRows.find? (rowMatches key)).or ((permissionRamRows.find? (rowMatches key)).or
      ((decodeErrorRows.find? (rowMatches key)).or (apertureRows.find? (rowMatches key)))) := by
  simp only [lookup, opcodeTable, exactRows, List.find?_append, Option.or_assoc]

/-- Every row fixes the window code, to one of the five windows (rule R71). -/
theorem opcodeTable_window :
    ∀ r ∈ opcodeTable, r.mask.extractLsb' 33 3 = 7#3 ∧ r.pattern.extractLsb' 33 3 ≤ 4#3 := by decide

/-- No aperture row has the window code of the configuration window. -/
theorem apertureRows_window :
    ∀ r ∈ apertureRows, r.mask.extractLsb' 33 3 = 7#3 ∧ r.pattern.extractLsb' 33 3 ≠ 0#3 := by decide

/-- A row whose mask covers the window code matches keys of its own window only. -/
theorem window_of_rowMatches {t : Transaction} {r : OpRow} (hmask : r.mask.extractLsb' 33 3 = 7#3)
    (h : rowMatches t.key r = true) : t.win = r.pattern.extractLsb' 33 3 := by
  rw [← eq_of_beq h, BitVec.extractLsb'_and, hmask, Transaction.key_window]
  exact (BitVec.and_allOnes (x := t.win)).symm

/-- A key of window code 101, 110 or 111 matches no row (rule R91). -/
theorem lookup_of_foreign_window {t : Transaction} (h : 4#3 < t.win) : lookup t.key = none := by
  refine List.find?_eq_none.mpr fun r hr hm => ?_
  obtain ⟨hmask, hpattern⟩ := opcodeTable_window r hr
  rw [← window_of_rowMatches hmask hm] at hpattern
  exact absurd h (BitVec.not_lt.mpr hpattern)

/-- A configuration access matches no aperture row. -/
theorem find?_apertureRows_of_cfg {t : Transaction} (h : t.win = 0#3) :
    apertureRows.find? (rowMatches t.key) = none := by
  refine List.find?_eq_none.mpr fun r hr hm => ?_
  obtain ⟨hmask, hpattern⟩ := apertureRows_window r hr
  exact hpattern ((window_of_rowMatches hmask hm).symm.trans h)

/-- Every register row compares the whole key, with an offset of the register block that is no hole. -/
theorem exactRows_pattern : ∀ r ∈ exactRows, r.mask = BitVec.allOnes 36 ∧
    (r.pattern.setWidth 32).toNat < 0x200 ∧ isHoleOffset (r.pattern.setWidth 32) = false := by decide

/-- Each aligned offset of the register block is a hole or has its row in either direction (rules R73, R87). -/
theorem exactRows_complete : ∀ (n : Fin 128) (w : Bool), isHoleOffset (BitVec.ofNat 32 (4 * n)) = true ∨
    (0#3 ++ BitVec.ofBool w) ++ BitVec.ofNat 32 (4 * n) ∈ exactRows.map OpRow.pattern := by decide +kernel

/-- A register row matches its own key only. -/
theorem rowMatches_exactRow {r : OpRow} (h : r ∈ exactRows) (key : BitVec 36) :
    rowMatches key r = true ↔ key = r.pattern := by
  simp only [rowMatches, (exactRows_pattern r h).1, BitVec.and_allOnes, beq_iff_eq]

/-! ### The rows of a range of offsets -/

/-- The mask compares bits 1:0 and every bit from `m` on, and the pattern is an aligned key of the configuration window:
the row stands for the `2 ^ m` byte offsets from the pattern's on. -/
abbrev IsRangeRow (m : Nat) (mask pattern : BitVec 36) : Prop :=
  2 ≤ m ∧ m ≤ 32 ∧ (∀ i : Fin 36, mask.getLsbD i = (decide (i.val < 2) || decide (m ≤ i.val))) ∧
    pattern &&& mask = pattern ∧ pattern.toNat < 2 ^ 33 ∧ 2 ^ m ∣ pattern.toNat % 2 ^ 32

/-- The key bits such a row compares. -/
theorem and_mask_eq_iff_testBit {m : Nat} {mask pattern : BitVec 36} (h : IsRangeRow m mask pattern)
    (key : BitVec 36) : key &&& mask = pattern ↔
      ∀ i, i < 2 ∨ m ≤ i → key.toNat.testBit i = pattern.toNat.testBit i := by
  obtain ⟨-, -, hmask, hpattern, -, -⟩ := h
  have bit (x : BitVec 36) (i : Nat) (hi : i < 36) :
      (x &&& mask).getLsbD i = (x.toNat.testBit i && (decide (i < 2) || decide (m ≤ i))) := by
    rw [BitVec.getLsbD_and, hmask ⟨i, hi⟩, BitVec.testBit_toNat]
  constructor
  · intro e i hcompared
    by_cases hi : i < 36
    · have hbit : (key &&& mask).getLsbD i = (pattern &&& mask).getLsbD i := by rw [e, hpattern]
      rw [bit key i hi, bit pattern i hi] at hbit
      simpa only [← Bool.decide_or, hcompared, decide_true, Bool.and_true] using hbit
    · rw [BitVec.testBit_toNat, BitVec.testBit_toNat, BitVec.getLsbD_of_ge _ _ (by omega),
        BitVec.getLsbD_of_ge _ _ (by omega)]
  · intro agree
    rw [← hpattern]
    refine BitVec.eq_of_getLsbD_eq fun i hi => ?_
    rw [bit key i hi, bit pattern i hi, ← Bool.decide_or]
    by_cases hcompared : i < 2 ∨ m ≤ i
    · rw [agree i hcompared]
    · simp only [hcompared, decide_false, Bool.and_false]

/-- The bits below `l` and from `m` on are the remainder and the quotient. -/
theorem mod_div_two_pow_eq_iff {l m x y : Nat} : (x % 2 ^ l = y % 2 ^ l ∧ x / 2 ^ m = y / 2 ^ m) ↔
    ∀ i, i < l ∨ m ≤ i → x.testBit i = y.testBit i := by
  constructor
  · rintro ⟨low, high⟩ i (hi | hi)
    · simpa [hi] using congrArg (·.testBit i) low
    · simpa [Nat.testBit_div_two_pow, Nat.sub_add_cancel hi] using congrArg (·.testBit (i - m)) high
  · intro agree
    refine ⟨Nat.eq_of_testBit_eq fun i => ?_, Nat.eq_of_testBit_eq fun i => ?_⟩
    · by_cases hi : i < l <;> simp [hi, agree]
    · rw [Nat.testBit_div_two_pow, Nat.testBit_div_two_pow, agree _ (.inr (Nat.le_add_left m i))]

/-- The direction and the quotient of the offset are read off the quotient of the key. -/
theorem dir_quotient_inj {m d e x y : Nat} (hm : m ≤ 32) (hx : x < 2 ^ 32) (hy : y < 2 ^ 32) :
    (d * 2 ^ 32 + x) / 2 ^ m = (e * 2 ^ 32 + y) / 2 ^ m ↔ d = e ∧ x / 2 ^ m = y / 2 ^ m := by
  obtain ⟨j, hj⟩ : ∃ j, 2 ^ 32 = 2 ^ m * 2 ^ j := ⟨32 - m, by rw [← Nat.pow_add, Nat.add_sub_cancel' hm]⟩
  have split (d x : Nat) : (d * 2 ^ 32 + x) / 2 ^ m = 2 ^ j * d + x / 2 ^ m := by
    rw [hj, show d * (2 ^ m * 2 ^ j) = 2 ^ m * (2 ^ j * d) by ring, Nat.mul_add_div (Nat.two_pow_pos m)]
  have bound {x : Nat} (hx : x < 2 ^ 32) : x / 2 ^ m < 2 ^ j := Nat.div_lt_of_lt_mul (hj ▸ hx)
  rw [split, split]
  constructor
  · intro h
    have hdiv := congrArg (· / 2 ^ j) h
    simp only [Nat.mul_add_div (Nat.two_pow_pos j), Nat.div_eq_of_lt (bound hx), Nat.div_eq_of_lt (bound hy)] at hdiv
    obtain rfl : d = e := hdiv
    exact ⟨rfl, Nat.add_left_cancel h⟩
  · rintro ⟨rfl, h⟩
    rw [h]

/-- The numbers of one quotient by `2 ^ m` are a range. -/
theorem div_two_pow_eq_iff {m x b : Nat} (hb : 2 ^ m ∣ b) : x / 2 ^ m = b / 2 ^ m ↔ b ≤ x ∧ x < b + 2 ^ m := by
  obtain ⟨q, rfl⟩ := hb
  have hpos := Nat.two_pow_pos m
  rw [Nat.mul_div_cancel_left q hpos, Nat.div_eq_iff hpos, Nat.mul_comm q]
  omega

/-- An aligned configuration access matches such a row when its direction is the row's and its offset in the range. -/
theorem rangeRow_eq {t : Transaction} (hwin : t.win = 0#3) (hoff : t.off.toNat % 4 = 0) (m : Nat)
    (mask pattern : BitVec 36) (h : IsRangeRow m mask pattern) :
    (t.key &&& mask == pattern) = (t.write == pattern.getLsbD 32 &&
      decide (pattern.toNat % 2 ^ 32 ≤ t.off.toNat ∧ t.off.toNat < pattern.toNat % 2 ^ 32 + 2 ^ m)) := by
  obtain ⟨h2, hm, -, -, hlt, hbase⟩ := id h
  have hkey : t.key.toNat = t.write.toNat * 2 ^ 32 + t.off.toNat := by
    rw [Transaction.key_toNat, hwin, BitVec.toNat_zero, Nat.zero_mul, Nat.zero_add]
  have hpattern : pattern.toNat = (pattern.getLsbD 32).toNat * 2 ^ 32 + pattern.toNat % 2 ^ 32 := by
    rw [← BitVec.testBit_toNat, Nat.toNat_testBit]
    omega
  have haligned : t.key.toNat % 2 ^ 2 = pattern.toNat % 2 ^ 2 := by
    have := (Nat.pow_dvd_pow 2 h2).trans hbase
    omega
  have hquot : t.key.toNat / 2 ^ m = pattern.toNat / 2 ^ m ↔ t.write.toNat = (pattern.getLsbD 32).toNat ∧
      t.off.toNat / 2 ^ m = pattern.toNat % 2 ^ 32 / 2 ^ m := by
    rw [hkey, ← dir_quotient_inj hm t.off.isLt (Nat.mod_lt _ (Nat.two_pow_pos 32)), ← hpattern]
  have hwrite : t.write.toNat = (pattern.getLsbD 32).toNat ↔ t.write = pattern.getLsbD 32 := by
    cases t.write <;> cases pattern.getLsbD 32 <;> decide
  rw [Bool.eq_iff_iff, beq_iff_eq, and_mask_eq_iff_testBit h, ← mod_div_two_pow_eq_iff, hquot, hwrite,
    div_two_pow_eq_iff hbase]
  simp only [haligned, true_and, Bool.and_eq_true, beq_iff_eq, decide_eq_true_eq]

/-- The permission-RAM rows stand for the offsets 0x1000 to 0x1640 (rule R86). -/
theorem permissionRamRows_any_iff {t : Transaction} (hwin : t.win = 0#3) (hoff : t.off.toNat % 4 = 0) :
    permissionRamRows.any (rowMatches t.key) = true ↔ 0x1000 ≤ t.off.toNat ∧ t.off.toNat < 0x1644 := by
  have row := rangeRow_eq hwin hoff
  simp only [permissionRamRows, rowMatches, List.any_cons, List.any_nil,
    row 10 0xFFFFFFC03#36 0x000001000#36 (by decide), row 10 0xFFFFFFC03#36 0x100001000#36 (by decide),
    row 9 0xFFFFFFE03#36 0x000001400#36 (by decide), row 9 0xFFFFFFE03#36 0x100001400#36 (by decide),
    row 6 0xFFFFFFFC3#36 0x000001600#36 (by decide), row 6 0xFFFFFFFC3#36 0x100001600#36 (by decide),
    row 2 0xFFFFFFFFF#36 0x000001640#36 (by decide), row 2 0xFFFFFFFFF#36 0x100001640#36 (by decide)]
  cases t.write <;> simp <;> omega

/-- The hole operation of a configuration transaction (rule R87), as `Transaction.outOfRange` is that of rule R88. -/
def Transaction.hole (t : Transaction) : Instr :=
  if t.write then .cfgWrHole t.off t.secure t.word else .cfgRdHole t.off t.secure

/-- Where no earlier row matches, the register block is holes, and the rest of the table's window is out of range
(rules R87, R88). -/
theorem decodeErrorRows_op {t : Transaction} (hwin : t.win = 0#3) (hoff : t.off.toNat % 4 = 0) :
    (decodeErrorRows.find? (rowMatches t.key)).map (fun r => r.op t) =
      if t.off.toNat < 0x200 then some t.hole
      else if t.off.toNat < 0x10000 then some t.outOfRange else none := by
  have row := rangeRow_eq hwin hoff
  simp only [decodeErrorRows, List.find?_cons, List.find?_nil, rowMatches,
    row 9 0xFFFFFFE03#36 0x000000000#36 (by decide), row 9 0xFFFFFFE03#36 0x100000000#36 (by decide),
    row 16 0xFFFFF0003#36 0x000000000#36 (by decide), row 16 0xFFFFF0003#36 0x100000000#36 (by decide)]
  by_cases hhole : t.off.toNat < 0x200 <;> by_cases htable : t.off.toNat < 0x10000 <;> cases hw : t.write <;>
    simp [Transaction.hole, Transaction.outOfRange, hw, hhole, htable]

/-! ### Decoding of configuration accesses -/

/-- The holes of rule R87 among the aligned offsets. -/
theorem isHoleOffset_iff {off : Word} (h : off.toNat % 4 = 0) : isHoleOffset off = true ↔
    (0x020 ≤ off.toNat ∧ off.toNat ≤ 0x038) ∨ (0x060 ≤ off.toNat ∧ off.toNat ≤ 0x0F8) ∨
      (0x150 ≤ off.toNat ∧ off.toNat ≤ 0x1F8) := by
  simp [isHoleOffset, h, or_assoc]

/-- The out-of-range offsets of rule R88 among the aligned offsets. -/
theorem isOutOfRangeOffset_iff {off : Word} (h : off.toNat % 4 = 0) : isOutOfRangeOffset off = true ↔
    (0x200 ≤ off.toNat ∧ off.toNat ≤ 0xFFC) ∨ 0x1644 ≤ off.toNat := by
  simp [isOutOfRangeOffset, h]

/-- The register rows hold the aligned offsets of the register block that are no hole. -/
theorem exactRows_any_iff {t : Transaction} (hwin : t.win = 0#3) (hoff : t.off.toNat % 4 = 0) :
    exactRows.any (rowMatches t.key) = true ↔ t.off.toNat < 0x200 ∧ isHoleOffset t.off = false := by
  rw [List.any_eq_true]
  constructor
  · rintro ⟨r, hr, hm⟩
    obtain ⟨-, hlt, hhole⟩ := exactRows_pattern r hr
    rw [← (rowMatches_exactRow hr t.key).mp hm, Transaction.key_offset] at hlt hhole
    exact ⟨hlt, hhole⟩
  · rintro ⟨hlt, hhole⟩
    have hofNat : BitVec.ofNat 32 (4 * (t.off.toNat / 4)) = t.off := by
      rw [Nat.mul_div_cancel' (Nat.dvd_of_mod_eq_zero hoff), BitVec.ofNat_toNat, BitVec.setWidth_eq]
    have hrow := exactRows_complete ⟨t.off.toNat / 4, by omega⟩ t.write
    rw [hofNat, hhole, ← hwin] at hrow
    obtain ⟨r, hr, hpattern⟩ := List.mem_map.mp (hrow.resolve_left Bool.false_ne_true)
    exact ⟨r, hr, (rowMatches_exactRow hr t.key).mpr hpattern.symm⟩

/-- The rows of the registers and of the permission RAM. -/
def definedRows : List OpRow := exactRows ++ permissionRamRows

/-- The defined rows hold the aligned offsets that are neither a hole nor out of range (rule R92). -/
theorem definedRows_any_iff {t : Transaction} (hwin : t.win = 0#3) (hoff : t.off.toNat % 4 = 0) :
    definedRows.any (rowMatches t.key) = true ↔ isHoleOffset t.off = false ∧ isOutOfRangeOffset t.off = false := by
  have hhole := isHoleOffset_iff hoff
  have hout := isOutOfRangeOffset_iff hoff
  rw [definedRows, List.any_append, Bool.or_eq_true, exactRows_any_iff hwin hoff, permissionRamRows_any_iff hwin hoff]
  rw [← Bool.not_eq_true, ← Bool.not_eq_true, hhole, hout]
  omega

/-- A configuration access to a defined register or a permission-RAM entry. -/
def OpKind.isDefined : OpKind → Bool
  | .defined _ _ => true
  | _ => false

/-- The operation of a defined row is of the defined kind. -/
theorem definedRows_kind (t : Transaction) : ∀ r ∈ definedRows, (r.op t).kind.isDefined = true :=
  List.all_eq_true.mp rfl

/-- The kind of a hole operation. -/
theorem Transaction.hole_kind (t : Transaction) : t.hole.kind = .hole t.write t.secure := by
  unfold Transaction.hole
  cases t.write <;> rfl

/-- The kind of an out-of-range operation. -/
theorem Transaction.outOfRange_kind (t : Transaction) : t.outOfRange.kind = .outOfRange t.write t.secure := by
  unfold Transaction.outOfRange
  cases t.write <;> rfl

/-- A configuration access that rules R54 and R62 admit. -/
structure Transaction.IsCfgWord (t : Transaction) : Prop where
  win : t.win = 0#3
  atomic : t.atomic = false
  size : t.size = 4
  aligned : t.off.toNat % 4 = 0

/-- An admitted configuration access is the operation of its first row, or out of range past the table (rules R88,
R92). -/
theorem decode_cfg {c : Config} {t : Transaction} (h : t.IsCfgWord) (hlt : t.off.toNat < c.cfgWindowSize) :
    decode c (.transaction t) = .ok (((lookup t.key).map fun r => r.op t).getD t.outOfRange) := by
  simp only [decode, decodeTransaction, h.atomic, h.win, h.size, (aligned_iff _).mpr h.aligned, Config.decodes, hlt]
  cases lookup t.key <;> rfl

/-- A configuration access past the window is refused (rule R91). -/
theorem decode_past_window {c : Config} {t : Transaction} (h : t.IsCfgWord) (hge : c.cfgWindowSize ≤ t.off.toNat) :
    decode c (.transaction t) = .error .notThisBlock := by
  simp [decode, decodeTransaction, h.atomic, h.win, h.size, (aligned_iff _).mpr h.aligned, Config.decodes, hge]

/-- A transaction of window code 101, 110 or 111 is refused (rule R91). -/
theorem decode_foreign_window {c : Config} {t : Transaction} (hatomic : t.atomic = false) (hwin : 4#3 < t.win) :
    decode c (.transaction t) = .error .notThisBlock := by
  have hne : (t.win == 0#3) = false := beq_false_of_ne (by rintro h; simp [h] at hwin)
  simp [decode, decodeTransaction, hatomic, hne, lookup_of_foreign_window hwin]

/-- The operation of an aligned configuration access's first row: of a defined row, or
of the hole and out-of-range rows. -/
theorem lookup_op {t : Transaction} (hwin : t.win = 0#3) (hoff : t.off.toNat % 4 = 0) :
    (lookup t.key).map (fun r => r.op t) =
      ((definedRows.find? (rowMatches t.key)).map (fun r => r.op t)).or
        (if t.off.toNat < 0x200 then some t.hole
          else if t.off.toNat < 0x10000 then some t.outOfRange else none) := by
  rw [← decodeErrorRows_op hwin hoff, lookup_eq, find?_apertureRows_of_cfg hwin, definedRows, List.find?_append,
    Option.or_none, ← Option.or_assoc, Option.map_or]

/-- An admitted configuration access at an offset of no defined row is a hole access in the register block, and out of
range past it. -/
theorem decode_cfg_undefined {c : Config} {t : Transaction} (h : t.IsCfgWord) (hlt : t.off.toNat < c.cfgWindowSize)
    (hundef : isHoleOffset t.off = true ∨ isOutOfRangeOffset t.off = true) :
    decode c (.transaction t) = .ok (if t.off.toNat < 0x200 then t.hole else t.outOfRange) := by
  have hnone : definedRows.find? (rowMatches t.key) = none := by
    rw [List.find?_eq_none]
    intro r hr hm
    obtain ⟨hhole, hout⟩ := (definedRows_any_iff h.win h.aligned).mp (List.any_eq_true.mpr ⟨r, hr, hm⟩)
    simp [hhole, hout] at hundef
  rw [decode_cfg h hlt, lookup_op h.win h.aligned, hnone]
  by_cases hreg : t.off.toNat < 0x200 <;> by_cases htable : t.off.toNat < 0x10000 <;> simp [hreg, htable]

/-- An admitted configuration access at any other offset is one of a defined register or permission-RAM entry. -/
theorem decode_cfg_defined {c : Config} {t : Transaction} (h : t.IsCfgWord) (hlt : t.off.toNat < c.cfgWindowSize)
    (hhole : isHoleOffset t.off = false) (hout : isOutOfRangeOffset t.off = false) :
    ∃ i, decode c (.transaction t) = .ok i ∧ i.kind.isDefined = true := by
  have hany := (definedRows_any_iff h.win h.aligned).mpr ⟨hhole, hout⟩
  obtain ⟨r, hr⟩ := Option.isSome_iff_exists.mp (List.find?_isSome.mpr (List.any_eq_true.mp hany))
  refine ⟨r.op t, ?_, definedRows_kind t r (List.mem_of_find?_eq_some hr)⟩
  rw [decode_cfg h hlt, lookup_op h.win h.aligned, hr]
  rfl

/-- Which operation an admitted configuration access inside the window is, by its offset. -/
theorem decode_cfg_cases {c : Config} {t : Transaction} (h : t.IsCfgWord) (hlt : t.off.toNat < c.cfgWindowSize) :
    ∃ i, decode c (.transaction t) = .ok i ∧ (i = t.hole ↔ isHoleOffset t.off = true) ∧
      (i = t.outOfRange ↔ isOutOfRangeOffset t.off = true) := by
  have hole := isHoleOffset_iff h.aligned
  have outOfRange := isOutOfRangeOffset_iff h.aligned
  have hne : t.hole ≠ t.outOfRange := fun e => by
    have := congrArg Instr.kind e
    rw [Transaction.hole_kind, Transaction.outOfRange_kind] at this
    cases this
  by_cases hundef : isHoleOffset t.off = true ∨ isOutOfRangeOffset t.off = true
  · refine ⟨_, decode_cfg_undefined h hlt hundef, ?_⟩
    by_cases hreg : t.off.toNat < 0x200
    · have ho : ¬isOutOfRangeOffset t.off = true := mt outOfRange.mp (by omega)
      simp [hreg, hundef.resolve_right ho, ho, hne]
    · have hh : ¬isHoleOffset t.off = true := mt hole.mp (by omega)
      simp [hreg, hh, hundef.resolve_left hh, hne.symm]
  · obtain ⟨hh, ho⟩ := not_or.mp hundef
    obtain ⟨i, hi, hkind⟩ := decode_cfg_defined h hlt (Bool.eq_false_iff.mpr hh) (Bool.eq_false_iff.mpr ho)
    refine ⟨i, hi, iff_of_false ?_ hh, iff_of_false ?_ ho⟩
    · rintro rfl
      rw [Transaction.hole_kind] at hkind
      exact Bool.false_ne_true hkind
    · rintro rfl
      rw [Transaction.outOfRange_kind] at hkind
      exact Bool.false_ne_true hkind

end Sys2Proof

namespace Sys2Proof.Machine

open Sys2Proof

/-! ### One step -/

/-- With nothing delivered the state stays. -/
theorem step_of_inbox_nil {s : State} (h : s.inbox = []) : step s = .next s := by
  simp only [step, State.nextDelivery, h]

/-- A decoded delivery is taken out of the inbox and run. -/
theorem step_of_decode_ok {s : State} {d : Delivery} {rest : List Delivery} {i : Instr} (h : s.inbox = d :: rest)
    (hi : decode s.cfg d = .ok i) : step s = exec i { s with inbox := rest } := by
  simp only [step, State.nextDelivery, h, hi]

/-- A delivery the decoder refuses is refused by the step. -/
theorem step_of_decode_error {s : State} {d : Delivery} {rest : List Delivery} {r : DecodeRefusal}
    (h : s.inbox = d :: rest) (hr : decode s.cfg d = .error r) : step s = .refused (refusalOf r) := by
  simp only [step, State.nextDelivery, h, hr]

/-- Settles O9, the step's equation for a decoded delivery. -/
theorem stepRunsDecodedInstruction : Obligations.StepRunsDecodedInstruction :=
  fun _ _ _ _ => step_of_decode_ok

/-- Settles O10, the step's equation for an empty inbox. -/
theorem idleStepChangesNothing : Obligations.IdleStepChangesNothing :=
  fun _ => step_of_inbox_nil

/-! ### Scope of the decoder -/

/-- Settles O3: the offsets below the window's end by the rows that match them, the others by rule R91. -/
theorem configOffsetsPartition : Obligations.ConfigOffsetsPartition := by
  intro c t hwin hatomic hsize halign
  have h : t.IsCfgWord := ⟨hwin, hatomic, hsize, (aligned_iff t.off).mp halign⟩
  change (decode c (.transaction t) = .ok t.hole ↔ _) ∧
    (decode c (.transaction t) = .ok t.outOfRange ↔ _) ∧ _
  by_cases hlt : t.off.toNat < c.cfgWindowSize
  · obtain ⟨i, hi, hhole, hout⟩ := decode_cfg_cases h hlt
    simp [hi, hhole, hout, hlt]
  · simp [decode_past_window h (Nat.le_of_not_lt hlt), hlt, Nat.le_of_not_lt hlt]

/-- Settles O7: the decoder refuses each such key, and the step with it. -/
theorem foreignKeyIsRefused : Obligations.ForeignKeyIsRefused := by
  intro s t rest hinbox hatomic hkey
  have hdecode : decode s.cfg (.transaction t) = .error .notThisBlock := by
    rcases hkey with hwin | hwin | hwin | ⟨hwin, hsize, halign, hge⟩
    · exact decode_foreign_window hatomic (hwin ▸ by decide)
    · exact decode_foreign_window hatomic (hwin ▸ by decide)
    · exact decode_foreign_window hatomic (hwin ▸ by decide)
    · exact decode_past_window ⟨hwin, hatomic, hsize, (aligned_iff t.off).mp halign⟩ hge
  exact step_of_decode_error hinbox hdecode

/-! ### The size of the permission RAM -/

/-- A read of an entry the RAM array lacks answers 0 (rule R88). -/
theorem cfgRamRead_of_lacking {k : Nat} {s : State} (h : s.cfg.nrApl ≤ k) (secure : Bool) :
    cfgRamRead k secure s = .next { s with answer := .read 0#64 .ok } := by
  rw [cfgRamRead_eq, if_neg (Nat.not_lt.mpr h), cfgRead, ite_self]
  rfl

/-- A write of an entry the RAM array lacks is dropped (rule R88). -/
theorem cfgRamWrite_of_lacking {k : Nat} {s : State} (h : s.cfg.nrApl ≤ k) (secure : Bool) (data : Word) :
    cfgRamWrite k secure data s = .next { s with answer := .write .ok } := by
  simp only [cfgRamWrite_eq, if_neg (Nat.not_lt.mpr h), cfgWrite, ite_self]
  rfl

/-- A secure read that is `ram_read(k)` reads an entry the RAM array has (rule R190). -/
theorem readsEntry_of_cfgRamRead {i : Instr} {k : Nat} {s : State} (h : k < s.cfg.nrApl)
    (hi : exec i s = cfgRamRead k true s) : readsEntry i k s := by
  rw [readsEntry, hi, cfgRamRead_eq, if_pos h]
  rfl

/-- A secure write that is `ram_write(k, data)` stores an entry the RAM array has and no byte outside it (rule R191). -/
theorem storesEntry_of_cfgRamWrite {i : Instr} {k : Nat} {data : Word} {s : State} (h : k < s.cfg.nrApl)
    (hram : s.ram.wf = true) (hi : exec i s = cfgRamWrite k true data s) : storesEntry i k data s := by
  refine ⟨writeWord s.ram (0x1000 + 4 * k) data, ?_, readWord_writeWord_same hram,
    fun a ha => readByte_writeWord_other hram ha⟩
  simp only [hi, cfgRamWrite_eq, if_pos h]
  rfl

/-- The entry an offset of the permission-RAM window names (rule R86). -/
theorem entryOfOffset {off : Word} {k : Nat} (h : off.toNat = 0x1000 + 4 * k) :
    ramWindowBase ≤ off.toNat ∧ (off.toNat - ramWindowBase) / 4 = k := by
  simp only [ramWindowBase]
  omega

/-- An out-of-range read at the offset of entry `k` is `ram_read(k)`. -/
theorem exec_cfgRdOor_entry {off : Word} {k : Nat} (h : off.toNat = 0x1000 + 4 * k) (secure : Bool) (s : State) :
    exec (.cfgRdOor off secure) s = cfgRamRead k secure s := by
  obtain ⟨hbase, hk⟩ := entryOfOffset h
  change unlistedRead off secure s = _
  rw [unlistedRead, if_pos hbase, hk]

/-- An out-of-range write at the offset of entry `k` is `ram_write(k, data)`. -/
theorem exec_cfgWrOor_entry {off : Word} {k : Nat} (h : off.toNat = 0x1000 + 4 * k) (secure : Bool) (data : Word)
    (s : State) : exec (.cfgWrOor off secure data) s = cfgRamWrite k secure data s := by
  obtain ⟨hbase, hk⟩ := entryOfOffset h
  change unlistedWrite off secure data s = _
  rw [unlistedWrite, if_pos hbase, hk]

/-- Settles O33: every sub-block's operations are `ram_read` and `ram_write` of their entry, and so are the out-of-range
ones at the offset of a word. -/
theorem permissionRamHasNrAplWords : Obligations.PermissionRamHasNrAplWords := by
  refine ⟨?_, fun s k off data hoff _ hk => ⟨?_, fun hram => ?_⟩⟩
  · intro s k i w secure data hsub hlack
    have hread := cfgRamRead_of_lacking hlack secure
    have hwrite := cfgRamWrite_of_lacking hlack secure data
    rcases hsub with ⟨j, rfl, rfl, rfl⟩ | ⟨j, rfl, rfl, rfl⟩ | ⟨j, rfl, rfl, rfl⟩ | ⟨rfl, rfl, rfl⟩ <;>
      exact ⟨hread, hwrite⟩
  · exact readsEntry_of_cfgRamRead hk (exec_cfgRdOor_entry hoff true s)
  · exact storesEntry_of_cfgRamWrite hk hram (exec_cfgWrOor_entry hoff true data s)

end Sys2Proof.Machine
end

section
/-! PROOFS. The invariant of a step, what each operation leaves unchanged, the interrupt line, and the reset values. -/

namespace Sys2Proof.Machine

open Sys2Proof

/-! ### One step, inverted -/

/-- What a step that answers a next state did: nothing, with nothing delivered, or it ran the decoded head of the
inbox. -/
theorem step_next {s t : State} (h : step s = .next t) :
    (s.inbox = [] ∧ t = s) ∨
      ∃ d rest i, s.inbox = d :: rest ∧ decode s.cfg d = .ok i ∧ exec i { s with inbox := rest } = .next t := by
  cases hin : s.inbox with
  | nil =>
    rw [step_of_inbox_nil hin] at h
    cases h
    exact .inl ⟨rfl, rfl⟩
  | cons d rest =>
    cases hd : decode s.cfg d with
    | error r => rw [step_of_decode_error hin hd] at h; cases h
    | ok i => exact .inr ⟨d, rest, i, rfl, hd, (step_of_decode_ok hin hd).symm.trans h⟩

/-! ### The aperture access: the fields it writes -/

/-- A bit that is set stays set where no bit is cleared. -/
theorem getLsbD_of_and_eq {f g : BitVec 8} (h : f &&& g = f) {n : Nat} (hn : f.getLsbD n = true) :
    g.getLsbD n = true := by
  rw [← h, BitVec.getLsbD_and, Bool.and_eq_true] at hn
  exact hn.2

/-- No bit is cleared by adding bits. -/
theorem and_or_of_and_eq {f g : BitVec 8} (h : f &&& g = f) (b : BitVec 8) : f &&& (g ||| b) = f := by
  rw [BitVec.and_or_distrib_left, h]
  exact BitVec.eq_of_getLsbD_eq fun n _ => by simp +contextual

/-- The check leaves the reserved bit of ISR as it was (rule R77). -/
theorem checkPermission_isr_reserved (s : State) (e : Word) (id : BitVec 10) (w secure : Bool) :
    (s.checkPermission e id w secure).isr.getLsbD 4 = s.isr.getLsbD 4 := by
  rw [State.checkPermission]
  split
  · simp [Cause.bit, Cause.code]
  · exact scanSlots_isr_bit (by decide) _ (fun r => by cases r <;> decide) _ _ _

section CheckedAccess

variable (s : State) (e addr : Word) (size : Nat) (x : Access) (m : Word) (secure : Bool)

@[simp] theorem State.checkedAccess_ctrl : (s.checkedAccess e addr size x m secure).ctrl = s.ctrl := by
  simp only [checkedAccess_eq, apply_ite State.ctrl, ite_self]

@[simp] theorem State.checkedAccess_poison : (s.checkedAccess e addr size x m secure).poison = s.poison := by
  simp only [checkedAccess_eq, apply_ite State.poison, ite_self]

@[simp] theorem State.checkedAccess_imr : (s.checkedAccess e addr size x m secure).imr = s.imr := by
  simp only [checkedAccess_eq, apply_ite State.imr, ite_self]

@[simp] theorem State.checkedAccess_eco : (s.checkedAccess e addr size x m secure).eco = s.eco := by
  simp only [checkedAccess_eq, apply_ite State.eco, ite_self]

@[simp] theorem State.checkedAccess_ramAdj : (s.checkedAccess e addr size x m secure).ramAdj = s.ramAdj := by
  simp only [checkedAccess_eq, apply_ite State.ramAdj, ite_self]

@[simp] theorem State.checkedAccess_mid : (s.checkedAccess e addr size x m secure).mid = s.mid := by
  simp only [checkedAccess_eq, apply_ite State.mid, ite_self]

@[simp] theorem State.checkedAccess_ram : (s.checkedAccess e addr size x m secure).ram = s.ram := by
  simp only [checkedAccess_eq, apply_ite State.ram, ite_self]

@[simp] theorem State.checkedAccess_winEn : (s.checkedAccess e addr size x m secure).winEn = s.winEn := by
  simp only [checkedAccess_eq, apply_ite State.winEn, ite_self]

@[simp] theorem State.checkedAccess_cfg : (s.checkedAccess e addr size x m secure).cfg = s.cfg := by
  simp only [checkedAccess_eq, apply_ite State.cfg, ite_self]

@[simp] theorem State.checkedAccess_inbox : (s.checkedAccess e addr size x m secure).inbox = s.inbox := by
  simp only [checkedAccess_eq, apply_ite State.inbox, ite_self]

/-- ISR after the checked access: what the check left, with the latch's bit or without it (rule R212). -/
theorem checkedAccess_isr_cases :
    let f := (s.checkPermission e (m.extractLsb' 0 10) x.isWrite secure).isr
    (s.checkedAccess e addr size x m secure).isr = f ∨
      (s.checkedAccess e addr size x m secure).isr = f ||| 0x20#8 := by
  simp only [checkedAccess_eq, apply_ite State.isr]
  split_ifs <;> simp

/-- An aperture access clears no bit of ISR (rule R219). -/
theorem checkedAccess_isr_mono : s.isr &&& (s.checkedAccess e addr size x m secure).isr = s.isr := by
  have gains := checkPermission_isr_mono s e (m.extractLsb' 0 10) x.isWrite secure
  rcases checkedAccess_isr_cases s e addr size x m secure with h | h <;> rw [h]
  · exact gains
  · exact and_or_of_and_eq gains _

/-- An aperture access leaves the reserved bit of ISR as it was (rule R77). -/
theorem checkedAccess_isr_reserved : (s.checkedAccess e addr size x m secure).isr.getLsbD 4 = s.isr.getLsbD 4 := by
  rw [← checkPermission_isr_reserved s e (m.extractLsb' 0 10) x.isWrite secure]
  rcases checkedAccess_isr_cases s e addr size x m secure with h | h <;> simp [h]

end CheckedAccess

/-! ### What no operation changes -/

/-- No operation changes the configuration (rule R37) or takes a delivery. -/
theorem Effect.cfg_inbox {i : Instr} {s t : State} (h : Effect i s t) : t.cfg = s.cfg ∧ t.inbox = s.inbox := by
  cases h with
  | access => simp
  | _ => exact ⟨rfl, rfl⟩

/-- Settles O11: the step takes the head of the inbox, and the operation changes neither field. -/
theorem stepKeepsConfigurationAndQueue : Obligations.StepKeepsConfigurationAndQueue := by
  intro s t h
  obtain ⟨hin, rfl⟩ | ⟨d, rest, i, hin, -, hexec⟩ := step_next h
  · simp [hin]
  · simpa [hin] using (exec_next hexec).cfg_inbox

/-! ### The invariant -/

/-- The reserved bit of ISR and IMR, as the mask of the invariant reads it. -/
theorem and_reserved_eq_zero_iff (f : BitVec 8) : f &&& 0x10#8 = 0#8 ↔ f.getLsbD 4 = false := by
  revert f
  decide

/-- Clearing bits leaves the reserved bit clear. -/
theorem and_reserved_of_and {f : BitVec 8} (h : f &&& 0x10#8 = 0#8) (g : BitVec 8) : (f &&& g) &&& 0x10#8 = 0#8 := by
  rw [BitVec.and_assoc, BitVec.and_comm g, ← BitVec.and_assoc, h, BitVec.zero_and]

/-- The state after reset has the invariant under a configuration whose rows stay inside the permission RAM. -/
theorem afterReset_inv {c : Config} (h : c.wf = true) (draw : Nat) : (State.afterReset c draw).Inv := by
  have himr : (c.imrReset &&& isrBits) &&& 0x10#8 = 0#8 := by simp [BitVec.and_assoc, isrBits]
  have hmid : ∀ i : Fin 20, (midReset c)[i] &&& 0x3C00FC00#32 = 0#32 := by
    simp [Fin.forall_fin_succ, midReset, BitVec.and_assoc, midStoredBits]
  exact ⟨h, rfl, rfl, BitVec.zero_and, himr, hmid, by simp [State.afterReset, WinEn.all]⟩

/-- Settles O13: the reserved bits of the parameters are masked away, and every enable is 0 with CTRL. -/
theorem resetHasInv : Obligations.ResetHasInv :=
  ⟨fun _ draw h => afterReset_inv h draw, afterReset_inv (by decide) 0⟩

/-- Every operation keeps the invariant. -/
theorem Effect.inv {i : Instr} {s t : State} (h : Effect i s t) (hs : s.Inv) : t.Inv := by
  obtain ⟨hcfg, hram, hwin, hisr, himr, hmid, hen⟩ := hs
  have parity : ∀ f : BitVec 8, f = s.isr ∨ f = s.isr ||| 0x08#8 → f &&& 0x10#8 = 0#8 := by
    rintro f (rfl | rfl)
    · exact hisr
    · simpa [and_reserved_eq_zero_iff] using hisr
  cases h with
  | answers | poison | eco | ramAdj => exact ⟨hcfg, hram, hwin, hisr, himr, hmid, hen⟩
  | hole => exact ⟨hcfg, hram, hwin, by simpa [and_reserved_eq_zero_iff] using hisr, himr, hmid, hen⟩
  | ctrl _ d f hf => exact ⟨hcfg, hram, hwin, parity f hf, himr, hmid, by simp⟩
  | isr => exact ⟨hcfg, hram, hwin, and_reserved_of_and hisr _, himr, hmid, hen⟩
  | ien => exact ⟨hcfg, hram, hwin, hisr, and_reserved_of_and himr _, hmid, hen⟩
  | ids => exact ⟨hcfg, hram, hwin, hisr, by simpa [and_reserved_eq_zero_iff] using himr, hmid, hen⟩
  | mid _ n d f hf =>
    refine ⟨hcfg, hram, hwin, parity f hf, himr, fun i => ?_, hen⟩
    by_cases hi : n = i
    · simp [hi, BitVec.and_assoc]
    · simpa [Vector.getElem_set, Fin.val_inj, hi] using hmid i
  | ram _ _ k d hk => exact ⟨hcfg, wf_writeWord hram, inWindow_writeWord hwin hk, hisr, himr, hmid, hen⟩
  | access =>
    refine ⟨by simpa, by simpa, by simpa, ?_, by simpa, by simpa, by simpa⟩
    rwa [and_reserved_eq_zero_iff, checkedAccess_isr_reserved, ← and_reserved_eq_zero_iff]
  | reset => exact afterReset_inv hcfg s.draws

/-- Settles O12: the inbox is no part of the invariant, and every operation keeps it. -/
theorem stepKeepsInv : Obligations.StepKeepsInv := by
  intro s t hs h
  obtain ⟨-, rfl⟩ | ⟨d, rest, i, -, -, hexec⟩ := step_next h
  · exact hs
  · exact (exec_next hexec).inv hs

/-- Every window is enabled alike. -/
@[simp] theorem WinEn.get_all (b : Bool) (a : Aperture) : (WinEn.all b).get a = b := by
  cases a <;> rfl

/-- Settles O15: only a CTRL write and reset write CTRL or an enable, and they write both. -/
theorem windowEnablesFollowCtrl : Obligations.WindowEnablesFollowCtrl := by
  intro i s t hs h
  cases exec_next h with
  | ctrl => simp
  | reset => intro a; cases a <;> simp [WinEn.get]
  | _ => simpa using hs

/-! ### What changes each register -/

section Changes

variable {i : Instr} {s t : State}

/-- CTRL changes by a secure CTRL write only (rule R14). -/
theorem Effect.ctrl_changes (h : Effect i s t) (hi : i ≠ .reset) (hne : t.ctrl ≠ s.ctrl) :
    ∃ d, i = .cfgWrCtrl true d := by
  cases h with
  | ctrl _ d => exact ⟨d, rfl⟩
  | reset => exact absurd rfl hi
  | _ => simp at hne

/-- The error pair changes by an aperture operation only (rules R15, R16). -/
theorem Effect.errStatus_changes (h : Effect i s t) (hi : i ≠ .reset)
    (hne : t.errStatus1 ≠ s.errStatus1 ∨ t.errStatus2 ≠ s.errStatus2) : ∃ b, i.kind = .aperture b := by
  cases h with
  | access _ _ _ _ _ _ secure => exact ⟨secure, kind_ap ..⟩
  | reset => exact absurd rfl hi
  | _ => simp at hne

/-- POISON changes by its secure write only (rule R17). -/
theorem Effect.poison_changes (h : Effect i s t) (hi : i ≠ .reset) (hne : t.poison ≠ s.poison) :
    ∃ d, i = .cfgWrPoison true d := by
  cases h with
  | poison _ d => exact ⟨d, rfl⟩
  | reset => exact absurd rfl hi
  | _ => simp at hne

/-- IMR changes by a secure write of one of its two strobes only (rule R19). -/
theorem Effect.imr_changes (h : Effect i s t) (hi : i ≠ .reset) (hne : t.imr ≠ s.imr) :
    (∃ d, i = .cfgWrIen true d) ∨ ∃ d, i = .cfgWrIds true d := by
  cases h with
  | ien _ d => exact .inl ⟨d, rfl⟩
  | ids _ d => exact .inr ⟨d, rfl⟩
  | reset => exact absurd rfl hi
  | _ => simp at hne

/-- ECO changes by its secure write only (rule R24). -/
theorem Effect.eco_changes (h : Effect i s t) (hi : i ≠ .reset) (hne : t.eco ≠ s.eco) :
    ∃ d, i = .cfgWrEco true d := by
  cases h with
  | eco _ d => exact ⟨d, rfl⟩
  | reset => exact absurd rfl hi
  | _ => simp at hne

/-- RAM_ADJ changes by its secure write only (rule R27). -/
theorem Effect.ramAdj_changes (h : Effect i s t) (hi : i ≠ .reset) (hne : t.ramAdj ≠ s.ramAdj) :
    ∃ d, i = .cfgWrRamAdj true d := by
  cases h with
  | ramAdj _ d => exact ⟨d, rfl⟩
  | reset => exact absurd rfl hi
  | _ => simp at hne

/-- A bit of ISR is set by a hole access, a re-validation or an aperture operation only (rules R18, R241). -/
theorem Effect.isr_gains (h : Effect i s t) (hi : i ≠ .reset) {n : Nat} (hs : s.isr.getLsbD n = false)
    (ht : t.isr.getLsbD n = true) :
    (∃ w b, i.kind = .hole w b) ∨ (∃ d, i = .cfgWrCtrl true d) ∨ (∃ n d, i = .midWr n true d) ∨
      ∃ b, i.kind = .aperture b := by
  cases h with
  | hole _ _ _ w b hk => exact .inl ⟨w, b, hk⟩
  | ctrl _ d => exact .inr (.inl ⟨d, rfl⟩)
  | mid _ n d => exact .inr (.inr (.inl ⟨n, d, rfl⟩))
  | access _ _ _ _ _ _ secure => exact .inr (.inr (.inr ⟨secure, kind_ap ..⟩))
  | reset => exact absurd rfl hi
  | _ => simp [hs] at ht

/-- A bit of ISR is cleared by a secure ISR write only (rules R34, R242). -/
theorem Effect.isr_loses (h : Effect i s t) (hi : i ≠ .reset) {n : Nat} (hs : s.isr.getLsbD n = true)
    (ht : t.isr.getLsbD n = false) : ∃ d, i = .cfgWrIsr true d := by
  cases h with
  | isr _ d => exact ⟨d, rfl⟩
  | ctrl _ _ _ hf | mid _ _ _ _ hf => rcases hf with rfl | rfl <;> simp [hs] at ht
  | access => exact absurd (ht.symm.trans (getLsbD_of_and_eq (checkedAccess_isr_mono ..) hs)) Bool.false_ne_true
  | reset => exact absurd rfl hi
  | _ => simp [hs] at ht

/-- The Master-ID registers change by a secure write of one of them only (rule R25). -/
theorem Effect.mid_changes (h : Effect i s t) (hi : i ≠ .reset) (hne : t.mid ≠ s.mid) :
    ∃ n d, i = .midWr n true d := by
  cases h with
  | mid _ n d => exact ⟨n, d, rfl⟩
  | reset => exact absurd rfl hi
  | _ => simp at hne

/-- The window enables change by a secure CTRL write only (rule R30). -/
theorem Effect.winEn_changes (h : Effect i s t) (hi : i ≠ .reset) (hne : t.winEn ≠ s.winEn) :
    ∃ d, i = .cfgWrCtrl true d := by
  cases h with
  | ctrl _ d => exact ⟨d, rfl⟩
  | reset => exact absurd rfl hi
  | _ => simp at hne

/-- The permission RAM changes by a secure write of an entry of the RAM array only (rule R28). -/
theorem Effect.ram_changes (h : Effect i s t) (hi : i ≠ .reset) (hne : t.ram ≠ s.ram) :
    ∃ k d, k < s.cfg.nrApl ∧ WritesRam i k d := by
  cases h with
  | ram _ _ k d hk hw => exact ⟨k, d, hk, hw⟩
  | reset => exact absurd rfl hi
  | _ => simp at hne

end Changes

/-- Settles O57, register by register. -/
theorem registersChangeOnlyAsTheirRulesSay : Obligations.RegistersChangeOnlyAsTheirRulesSay := by
  intro i s t hi h
  have e := exec_next h
  exact ⟨e.ctrl_changes hi, e.errStatus_changes hi, e.poison_changes hi,
    fun ⟨_, hs, ht⟩ => e.isr_gains hi hs ht, fun ⟨_, hs, ht⟩ => e.isr_loses hi hs ht,
    e.imr_changes hi, e.eco_changes hi, e.ramAdj_changes hi⟩

/-- Settles O58: the writes of an entry are those of the sub-blocks, or at an offset of the array. -/
theorem tablesChangeOnlyAsTheirRulesSay : Obligations.TablesChangeOnlyAsTheirRulesSay := by
  intro i s t hi h
  have e := exec_next h
  refine ⟨e.mid_changes hi, e.winEn_changes hi, fun hne => ?_⟩
  obtain ⟨k, d, hk, hw⟩ := e.ram_changes hi hne
  cases hw with
  | apl64kb j => exact .inl ⟨j, d, rfl⟩
  | apl32b j => exact .inr (.inl ⟨j, d, rfl⟩)
  | apl1mb j => exact .inr (.inr (.inl ⟨j, d, rfl⟩))
  | apl512mb => exact .inr (.inr (.inr (.inl ⟨d, rfl⟩)))
  | unlisted off _ ho => exact .inr (.inr (.inr (.inr ⟨off, d, rfl, ho, by omega⟩)))

/-! ### Writes of two permission-RAM entries -/

/-- A byte of four bytes side by side. -/
theorem extractLsb'_bytes (f : Nat → Byte) {n : Nat} (hn : n < 4) :
    (f 3 ++ (f 2 ++ (f 1 ++ f 0))).extractLsb' (8 * n) 8 = f n := by
  refine BitVec.eq_of_getLsbD_eq fun j hj => ?_
  simp only [BitVec.getLsbD_extractLsb', BitVec.getLsbD_append, hj, decide_true, Bool.true_and]
  interval_cases n
  · simp [hj, show j < 16 by omega, show j < 24 by omega]
  · simp [show 8 + j < 16 by omega, show 8 + j < 24 by omega]
  · simp [show 16 + j < 24 by omega]
  · simp

/-- The bytes of a word (rule R56). -/
theorem readByte_eq_extractLsb' (m : Memory) (a : Nat) {n : Nat} (hn : n < 4) :
    readByte m (a + n) = (readWord m a).extractLsb' (8 * n) 8 :=
  (extractLsb'_bytes (fun i => readByte m (a + i)) hn).symm

/-- The bytes of a word just written, whatever was there. -/
theorem readByte_writeWord_same {m : Memory} (h : m.wf = true) (a : Nat) (v : Word) {n : Nat} (hn : n < 4) :
    readByte (writeWord m a v) (a + n) = v.extractLsb' (8 * n) 8 := by
  rw [readByte_eq_extractLsb' _ a hn, readWord_writeWord_same h]

/-- Every byte is outside of a word or one of its four. -/
theorem outside_or_byte (a x : Nat) : (x < a ∨ a + 4 ≤ x) ∨ ∃ n < 4, x = a + n := by
  by_cases h : x < a ∨ a + 4 ≤ x
  · exact .inl h
  · exact .inr ⟨x - a, by omega, by omega⟩

/-- Writes of two disjoint words commute. -/
theorem writeWord_comm {m : Memory} (h : m.wf = true) {a b : Nat} (hab : a + 4 ≤ b ∨ b + 4 ≤ a) (v w : Word) :
    writeWord (writeWord m a v) b w = writeWord (writeWord m b w) a v := by
  have ha : Memory.wf (writeWord m a v) = true := wf_writeWord h
  have hb : Memory.wf (writeWord m b w) = true := wf_writeWord h
  refine eq_of_readByte_eq (lo := 0) (wf_writeWord ha) (wf_writeWord hb) fun x => ?_
  rcases outside_or_byte a x with hxa | ⟨n, hn, rfl⟩
  · rw [readByte_writeWord_other hb hxa]
    rcases outside_or_byte b x with hxb | ⟨n, hn, rfl⟩
    · rw [readByte_writeWord_other ha hxb, readByte_writeWord_other h hxa, readByte_writeWord_other h hxb]
    · rw [readByte_writeWord_same ha b w hn, readByte_writeWord_same h b w hn]
  · rw [readByte_writeWord_other ha (by omega), readByte_writeWord_same h a v hn, readByte_writeWord_same hb a v hn]

/-- The write of entry `k` is `ram_write(k, data)`, in a sub-block or past them (rule R191). -/
theorem exec_wrEntry {k : Nat} (hk : 0x1000 + 4 * k < 2 ^ 32) (secure : Bool) (data : Word) (s : State) :
    exec (.wrEntry k secure data) s = cfgRamWrite k secure data s := by
  unfold Instr.wrEntry
  split_ifs with h1 h2 h3 h4
  · change cfgRamWrite (BitVec.ofNat 8 k).toNat secure data s = _
    rw [BitVec.toNat_ofNat, Nat.mod_eq_of_lt h1]
  · change cfgRamWrite (256 + (BitVec.ofNat 7 (k - 256)).toNat) secure data s = _
    rw [BitVec.toNat_ofNat, Nat.mod_eq_of_lt (by omega), Nat.add_sub_cancel' (by omega)]
  · change cfgRamWrite (384 + (BitVec.ofNat 4 (k - 384)).toNat) secure data s = _
    rw [BitVec.toNat_ofNat, Nat.mod_eq_of_lt (by omega), Nat.add_sub_cancel' (by omega)]
  · rw [h4]
    rfl
  · exact exec_cfgWrOor_entry (by rw [BitVec.toNat_ofNat, Nat.mod_eq_of_lt hk]) secure data s

/-- The permission RAM after `ram_write(k, data)`: nothing changes for an entry the RAM array lacks. -/
def State.ramAfterWrite (s : State) (k : Nat) (data : Word) : Memory :=
  if k < s.cfg.nrApl then writeWord s.ram (ramAddress k) data else s.ram

/-- A secure write of entry `k` answers a next state, which differs in the permission RAM and the answer alone. -/
theorem exec_wrEntry_secure {k : Nat} (hk : 0x1000 + 4 * k < 2 ^ 32) (data : Word) (s : State) :
    exec (.wrEntry k true data) s = .next { s with ram := s.ramAfterWrite k data, answer := .write .ok } := by
  rw [exec_wrEntry hk, cfgRamWrite_eq, State.ramAfterWrite]
  by_cases h : k < s.cfg.nrApl
  · simp only [cfgWrite, if_true, if_pos h]
    rfl
  · simp only [cfgWrite, if_true, if_neg h]
    rfl

/-- The permission RAM after writes to two different entries, in either order. -/
theorem ramAfterWrite_comm {s : State} (h : s.ram.wf = true) {j k : Nat} (hjk : j ≠ k) (x y : Word) :
    ({ s with ram := s.ramAfterWrite j x, answer := .write .ok } : State).ramAfterWrite k y =
      ({ s with ram := s.ramAfterWrite k y, answer := .write .ok } : State).ramAfterWrite j x := by
  unfold State.ramAfterWrite
  by_cases hj : j < s.cfg.nrApl <;> by_cases hk : k < s.cfg.nrApl <;> simp only [hj, hk, if_true, if_false]
  exact writeWord_comm h (by unfold ramAddress; omega) x y

/-- Settles O32: each write changes its own entry's bytes alone, and the form is canonical. -/
theorem permissionRamWritesCommute : Obligations.PermissionRamWritesCommute := by
  intro s j k x y h hjk hj hk
  refine ⟨_, _, _, exec_wrEntry_secure hj x s, exec_wrEntry_secure hk y _, exec_wrEntry_secure hk y s, ?_⟩
  rw [exec_wrEntry_secure hj, ramAfterWrite_comm h hjk]

/-! ### The interrupt line -/

/-- The sources of the interrupt line are the stored bits (rule R77). -/
theorem isrBits_getLsbD_iff {n : Nat} : isrBits.getLsbD n = true ↔ n ∈ [0, 1, 2, 3, 5, 6, 7] := by
  by_cases hn : n < 8
  · interval_cases n <;> decide
  · rw [BitVec.getLsbD_of_ge _ _ (by omega)]
    simp only [Bool.false_eq_true, false_iff, List.mem_cons, List.not_mem_nil, or_false]
    omega

/-- A value is not 0 when it has a bit. -/
theorem ne_zero_iff_getLsbD {w : Nat} {v : BitVec w} : v ≠ 0#w ↔ ∃ n, v.getLsbD n = true := by
  constructor
  · intro h
    by_contra hn
    exact h (BitVec.eq_of_getLsbD_eq fun n _ => by simpa using not_exists.mp hn n)
  · rintro ⟨n, hn⟩ rfl
    simp at hn

/-- The line is high when an implemented source is pending and not masked (rule R31). -/
theorem irq_iff (s : State) : s.irq = true ↔
    ∃ n ∈ [0, 1, 2, 3, 5, 6, 7], s.isr.getLsbD n = true ∧ s.imr.getLsbD n = false := by
  rw [State.irq, bne_iff_ne, ne_zero_iff_getLsbD]
  refine exists_congr fun n => ?_
  rw [← isrBits_getLsbD_iff]
  by_cases hn : n < 8
  · simp only [BitVec.getLsbD_and, BitVec.getLsbD_not, hn, decide_true, Bool.true_and, Bool.and_eq_true,
      Bool.not_eq_true']
    tauto
  · simp [BitVec.getLsbD_of_ge _ _ (Nat.le_of_not_lt hn)]

/-- Settles O51: the line bit by bit, and ISR after reset has none. -/
theorem irqIsSomePendingUnmaskedSource : Obligations.IrqIsSomePendingUnmaskedSource :=
  ⟨irq_iff, fun c draw => by simp [State.irq, State.afterReset]⟩

/-! ### The default reset values -/

/-- Settles O60, by evaluating the reset state. -/
theorem defaultResetValues : Obligations.DefaultResetValues := by
  have mids : State.reset.mid = #v[0x83FF0040#32, 0x03F00000#32, 0x83F00010#32, 0x83C00080#32, 0#32, 0#32, 0#32,
      0#32, 0#32, 0#32, 0#32, 0#32, 0#32, 0#32, 0#32, 0#32, 0#32, 0#32, 0#32, 0#32] := by decide
  refine ⟨rfl, rfl, rfl, rfl, rfl, by decide, rfl, mids, rfl, rfl, by decide, ?_⟩
  rw [mids]
  decide +kernel

end Sys2Proof.Machine
end

section
/-! PROOFS. What the decoder refuses first, the admission of an aperture access, and the record of downstream
accesses. -/

namespace Sys2Proof.Machine

open Sys2Proof

/-! ### The decoder's first two refusals -/

/-- An atomic transaction is refused before anything else of it is looked at (rule R62). -/
theorem decode_atomic {c : Config} {t : Transaction} (h : t.atomic = true) :
    decode c (.transaction t) = .error .atomicAttribute := by
  rw [decode, decodeTransaction, if_pos h]

/-- A configuration access that is not an aligned word is refused before its key is looked up (rule R54). -/
theorem decode_cfg_nonWord {c : Config} {t : Transaction} (hatomic : t.atomic = false) (hwin : t.win = 0#3)
    (h : t.size ≠ 4 ∨ t.off.extractLsb' 0 2 ≠ 0#2) :
    decode c (.transaction t) = .error .cfgSizeOrAlignment := by
  have hword : (t.win == 0#3 && !(t.size == 4 && t.off.extractLsb' 0 2 == 0#2)) = true := by
    rcases h with hsize | halign
    · simp [hwin, hsize]
    · simp [hwin, halign]
  rw [decode, decodeTransaction, if_neg (Bool.eq_false_iff.mp hatomic), if_pos hword]

/-- Settles O5: the decoder refuses every atomic transaction, and the step with it. -/
theorem atomicTransactionIsRefused : Obligations.AtomicTransactionIsRefused :=
  fun _ _ _ hinbox hatomic => step_of_decode_error hinbox (decode_atomic hatomic)

/-- Settles O6: the decoder refuses each such access, and the step with it. -/
theorem nonWordConfigAccessIsRefused : Obligations.NonWordConfigAccessIsRefused :=
  fun _ _ _ hinbox hatomic hwin h => step_of_decode_error hinbox (decode_cfg_nonWord hatomic hwin h)

/-! ### The admission of an aperture access -/

/-- The three conditions of rule R55. -/
theorem apertureFits_iff (d : ApertureDesc) (off : Word) (size : Nat) : apertureFits d off size = true ↔
    (size = 1 ∨ size = 2 ∨ size = 4 ∨ size = 8) ∧ off.toNat + size ≤ d.windowSize ∧
      d.base.toNat + off.toNat + size ≤ 2 ^ 32 := by
  simp only [apertureFits, Bool.and_eq_true, Bool.or_eq_true, beq_iff_eq, decide_eq_true_eq, or_assoc]

/-- Past its admission an aperture access answers or faults, and refuses nothing (rules R55, R200). -/
theorem apertureAccess_refused_iff (a : Aperture) (off : Word) (size : Nat) (access : Access) (m : Word)
    (secure : Bool) (s : State) :
    apertureAccess a off size access m secure s = .refused .apertureRange ↔
      ¬apertureFits (s.cfg.aperture a) off size = true := by
  simp only [apertureAccess, apertureAdmitted, Bool.not_eq_true', Bool.not_eq_true]
  by_cases hfits : apertureFits (s.cfg.aperture a) off size = false
  · exact iff_of_true (if_pos hfits) hfits
  · rw [if_neg hfits]
    refine iff_of_false ?_ hfits
    split
    · exact nofun
    · split <;> exact nofun

/-- Settles O8: the operation is `aperture_access`, whose one refusal is that of the admission. -/
theorem apertureAdmissionIsThreeConditions : Obligations.ApertureAdmissionIsThreeConditions := by
  intro s a off size access m secure
  rw [exec_ap, apertureAccess_refused_iff, apertureFits_iff]

/-! ### The record of downstream accesses -/

/-- The checked access forwards once: to its own address when it is authorized, else to the poison address (rules R211,
R214). -/
theorem State.checkedAccess_downstream (s : State) (e addr : Word) (size : Nat) (x : Access) (m : Word)
    (secure : Bool) :
    (s.checkedAccess e addr size x m secure).downstream = s.downstream ++
      [⟨if (s.checkPermission e (m.extractLsb' 0 10) x.isWrite secure).ok = true then addr
        else s.poison ++ addr.extractLsb' 0 12, size, x, m, secure⟩] := by
  rw [checkedAccess_eq]
  dsimp only
  split <;> rfl

/-- Only an aperture operation adds to the record (rule R53). -/
theorem Effect.downstream_eq {i : Instr} {s t : State} (h : Effect i s t) (hi : ∀ b, i.kind ≠ .aperture b) :
    t.downstream = s.downstream := by
  cases h with
  | access _ _ _ _ _ _ secure => exact absurd (kind_ap ..) (hi secure)
  | _ => rfl

/-- An aperture operation through an enabled window answers a next state by its checked access alone (rules R65,
R200). -/
theorem exec_ap_enabled {s t : State} {a : Aperture} {off : Word} {size : Nat} {x : Access} {m : Word}
    {secure : Bool} (hw : s.winEn.get a = true) (h : exec (.ap a off size x m secure) s = .next t) :
    t = s.checkedAccess (s.entryFor a off) (s.addressOf a off) size x m secure := by
  rw [exec_ap] at h
  obtain ⟨-, ⟨hoff, -⟩ | ⟨-, -, ht⟩⟩ := apertureAccess_next h
  · exact absurd (hoff.symm.trans hw) Bool.false_ne_true
  · exact ht

/-- Settles O50: the checked access forwards once, by whether the check authorizes, and no other operation does. -/
theorem oneDownstreamAccessPerForward : Obligations.OneDownstreamAccessPerForward := by
  refine ⟨fun i s t hi h => (exec_next h).downstream_eq hi, ?_⟩
  intro s t a off size x m secure hw h
  rw [exec_ap_enabled hw h, State.checkedAccess_downstream]
  split
  · exact .inl rfl
  · exact .inr rfl

end Sys2Proof.Machine
end

section
/-! PROOFS. Parity as a count of ones, the permission-RAM index, the poison address, and the out-of-range accesses. -/

namespace Sys2Proof.Machine

open Sys2Proof

/-! ### Parity as a count (rule R8) -/

/-- The XOR of the low bits is 1 when an odd number of them are ones. -/
theorem parityBelow_eq_countP {w : Nat} (v : BitVec w) (m : Nat) :
    parityBelow v m = decide ((List.range m).countP (fun n => v.getLsbD n) % 2 = 1) := by
  induction m with
  | zero => rfl
  | succ m ih =>
    rw [parityBelow, ih, List.range_succ, List.countP_append, List.countP_singleton, Bool.eq_iff_iff]
    cases v.getLsbD m <;> simp
    omega

/-- A parity bit equals the parity of the bits it guards exactly when an even number of ones stands at their places
`f 0`, ..., `f (m - 1)` and its own place `n`. -/
theorem parityBit_eq_iff_even {w : Nat} {v : BitVec w} {m : Nat} {p : Nat → Bool} {f : Nat → Nat} (n : Nat)
    (hbits : ∀ i < m, v.getLsbD i = p (f i)) :
    (p n == parityBelow v m) = true ↔ ((List.range m).map f ++ [n]).countP p % 2 = 0 := by
  have hcount : (List.range m).countP (fun i => v.getLsbD i) = ((List.range m).map f).countP p := by
    rw [List.countP_map]
    refine List.countP_congr fun i hi => ?_
    rw [hbits i (List.mem_range.mp hi), Function.comp_apply]
  rw [parityBelow_eq_countP, hcount, List.countP_append, List.countP_singleton]
  cases p n <;> simp
  omega

/-- Below MIDP the covered bits of rule R82 are those of the covered bits with MIDP. -/
theorem midCovered_getLsbD {v : Word} {i : Nat} (hi : i < 31) :
    (v &&& 0x43FF03FF#32).getLsbD i = (v &&& 0xC3FF03FF#32).getLsbD i := by
  have masks : ∀ i < 31, (0x43FF03FF#32).getLsbD i = (0xC3FF03FF#32).getLsbD i := by decide
  rw [BitVec.getLsbD_and, BitVec.getLsbD_and, masks i hi]

/-- Settles O34: MIDP is the parity bit of the 31 places below it. -/
theorem midParityIsEvenParity : Obligations.MidParityIsEvenParity := by
  intro v
  have covered : parity (v &&& 0x43FF03FF#32) = parityBelow (v &&& 0x43FF03FF#32) 31 := by
    simp [parity, parityBelow.eq_2 _ 31]
  have midp : v.getLsbD 31 = (v &&& 0xC3FF03FF#32).getLsbD 31 := by simp
  rw [midParityOk, covered, midp, Bool.beq_comm]
  exact parityBit_eq_iff_even (p := fun n => (v &&& 0xC3FF03FF#32).getLsbD n) (f := id) 31
    fun i hi => midCovered_getLsbD hi

/-- A lane of five consecutive bits with its parity bit (rule R84). -/
theorem lane_eq_iff_even (e : Word) (start n : Nat) :
    (e.getLsbD n == parity (e.extractLsb' start 5)) = true ↔
      ((List.range 5).map (start + ·) ++ [n]).countP (fun i => e.getLsbD i) % 2 = 0 :=
  parityBit_eq_iff_even n fun i hi => by simp [hi]

/-- The last lane holds bits 19:15 and, above them, TZ in bit 27 (rule R84). -/
theorem lastLane_getLsbD (e : Word) : ∀ i < 6, (e.extractLsb' 27 1 ++ e.extractLsb' 15 5).getLsbD i =
    e.getLsbD (if i < 5 then 15 + i else 27) := by
  intro i hi
  rw [BitVec.getLsbD_append]
  by_cases h : i < 5
  · simp [h]
  · obtain rfl : i = 5 := by omega
    simp

/-- Settles O35, lane by lane. -/
theorem aplParityIsFourEvenLanes : Obligations.AplParityIsFourEvenLanes := by
  intro e
  have last := parityBit_eq_iff_even (p := fun i => e.getLsbD i) 31 (lastLane_getLsbD e)
  simp only [aplParityOk, Bool.and_eq_true, and_assoc]
  exact and_congr (lane_eq_iff_even e 0 28) <| and_congr (lane_eq_iff_even e 5 29) <|
    and_congr (lane_eq_iff_even e 10 30) last

/-! ### The addresses of an aperture access -/

/-- An appended value stands above the bits of the other. -/
theorem toNat_append_eq_add {m n : Nat} (x : BitVec m) (y : BitVec n) :
    (x ++ y).toNat = x.toNat * 2 ^ n + y.toNat := by
  rw [BitVec.toNat_append, ← Nat.shiftLeft_add_eq_or_of_lt y.isLt, Nat.shiftLeft_eq]

/-- The index as rule R85's sum. -/
theorem aplIndex_eq (d : ApertureDesc) (addr : Word) :
    aplIndex d addr = d.ramBase + (addr.toNat / 2 ^ d.shift &&& d.mask.toNat) := by
  rw [aplIndex, BitVec.toNat_and, BitVec.toNat_ushiftRight, Nat.shiftRight_eq_div_pow]

/-- Settles O39: the masked quotient is at most the mask, and the mask is below the number of entries. -/
theorem aplIndexStaysInAperture : Obligations.AplIndexStaysInAperture := by
  intro n d addr hd
  obtain ⟨hmask, hentries⟩ : d.mask.toNat < d.entries ∧ d.ramBase + d.entries ≤ n := by
    simpa [ApertureDesc.wf] using hd
  have hmasked : addr.toNat / 2 ^ d.shift &&& d.mask.toNat ≤ d.mask.toNat := Nat.and_le_right
  refine ⟨aplIndex_eq d addr, ?_⟩
  rw [aplIndex_eq]
  omega

/-- Settles O40: the base stands above the 12 bits that are kept. -/
theorem poisonAddressKeepsLowBits : Obligations.PoisonAddressKeepsLowBits := by
  intro base addr
  have low : (addr.extractLsb' 0 12).toNat = addr.toNat % 4096 := by simp
  rw [poisonAddress, toNat_append_eq_add, low]
  rfl

/-! ### Out-of-range accesses -/

/-- Settles O28: below the permission-RAM window and past the instance's array an offset names no word. -/
theorem outOfRangeAccessHasNoEffect : Obligations.OutOfRangeAccessHasNoEffect := by
  intro s off secure data hoff
  have hnone : ¬(0x1000 ≤ off.toNat ∧ (off.toNat - 0x1000) / 4 < s.cfg.nrApl) := by omega
  constructor
  · change unlistedRead off secure s = _
    rw [unlistedRead_eq, if_neg hnone, cfgRead, ite_self]
    rfl
  · change unlistedWrite off secure data s = _
    simp only [unlistedWrite_eq, if_neg hnone, cfgWrite, ite_self]
    rfl

end Sys2Proof.Machine
end

section
/-! PROOFS. The encoder and the decoder agree, on deliveries and on their bit images. -/

namespace Sys2Proof

/-! ### The delivery of a configuration access -/

/-- The transaction of a configuration access as the encoder writes it. -/
def cfgTransaction (write : Bool) (off : Word) (secure : Bool) (data : Word) : Transaction where
  win := 0#3
  write := write
  off := off
  size := 4
  atomic := false
  masterId := 0#32
  secure := secure
  data := data.setWidth 64

/-- The encoder's configuration delivery carries this transaction. -/
theorem cfgDelivery_eq (write : Bool) (off : Word) (secure : Bool) (data : Word) :
    cfgDelivery write off secure data = .transaction (cfgTransaction write off secure data) := rfl

/-- The payload's low word is the data (rule R56). -/
@[simp] theorem cfgTransaction_word (write : Bool) (off : Word) (secure : Bool) (data : Word) :
    (cfgTransaction write off secure data).word = data := by
  simp [Transaction.word, cfgTransaction]

@[simp] theorem cfgTransaction_write (write : Bool) (off : Word) (secure : Bool) (data : Word) :
    (cfgTransaction write off secure data).write = write := rfl

@[simp] theorem cfgTransaction_off (write : Bool) (off : Word) (secure : Bool) (data : Word) :
    (cfgTransaction write off secure data).off = off := rfl

@[simp] theorem cfgTransaction_secure (write : Bool) (off : Word) (secure : Bool) (data : Word) :
    (cfgTransaction write off secure data).secure = secure := rfl

/-- At an aligned offset it is admitted by rules R54 and R62. -/
theorem cfgTransaction_isCfgWord (write : Bool) {off : Word} (h : off.toNat % 4 = 0) (secure : Bool) (data : Word) :
    (cfgTransaction write off secure data).IsCfgWord :=
  ⟨rfl, rfl, rfl, h⟩

/-- Its key (rule R70), in a form that evaluates at a given direction and offset. -/
theorem cfgTransaction_key (write : Bool) (off : Word) (secure : Bool) (data : Word) :
    (cfgTransaction write off secure data).key = BitVec.ofNat 36 (write.toNat * 2 ^ 32 + off.toNat) := by
  have hkey := Transaction.key_toNat (cfgTransaction write off secure data)
  rw [← BitVec.setWidth_eq (cfgTransaction write off secure data).key, ← BitVec.ofNat_toNat, hkey]
  simp [cfgTransaction]

/-! ### Registers: the row of a fixed key -/

/-- A configuration delivery inside the window is the operation of the row its key selects (rule R72). -/
theorem decode_cfgDelivery_of_lookup {c : Config} {write secure : Bool} {off data : Word} {r : OpRow} {i : Instr}
    (hrow : lookup (BitVec.ofNat 36 (write.toNat * 2 ^ 32 + off.toNat)) = some r) (haligned : off.toNat % 4 = 0)
    (hwindow : c.decodes off.toNat = true) (hop : r.op (cfgTransaction write off secure data) = i) :
    decode c (cfgDelivery write off secure data) = .ok i := by
  rw [cfgDelivery_eq, decode_cfg (cfgTransaction_isCfgWord write haligned secure data) (of_decide_eq_true hwindow),
    cfgTransaction_key, hrow, ← hop]
  rfl

/-! ### Permission-RAM entries: the rows of a range of keys -/

/-- The operation of a configuration access to an offset of the permission-RAM rows (rule R86). -/
def Transaction.entryAccess (t : Transaction) : Instr :=
  if t.off.toNat < 0x1400 then
    if t.write then .cfgWrApl64kb (t.off.extractLsb' 2 8) t.secure t.word
    else .cfgRdApl64kb (t.off.extractLsb' 2 8) t.secure
  else if t.off.toNat < 0x1600 then
    if t.write then .cfgWrApl32b (t.off.extractLsb' 2 7) t.secure t.word
    else .cfgRdApl32b (t.off.extractLsb' 2 7) t.secure
  else if t.off.toNat < 0x1640 then
    if t.write then .cfgWrApl1mb (t.off.extractLsb' 2 4) t.secure t.word
    else .cfgRdApl1mb (t.off.extractLsb' 2 4) t.secure
  else if t.write then .cfgWrApl512mb t.secure t.word
  else .cfgRdApl512mb t.secure

/-- The first permission-RAM row that matches, for an offset these rows hold. -/
theorem permissionRamRows_op {t : Transaction} (hwin : t.win = 0#3) (hoff : t.off.toNat % 4 = 0)
    (hlow : 0x1000 ≤ t.off.toNat) (hhigh : t.off.toNat < 0x1644) :
    (permissionRamRows.find? (rowMatches t.key)).map (fun r => r.op t) = some t.entryAccess := by
  have row := rangeRow_eq hwin hoff
  simp only [permissionRamRows, List.find?_cons, List.find?_nil, rowMatches,
    row 10 0xFFFFFFC03#36 0x000001000#36 (by decide), row 10 0xFFFFFFC03#36 0x100001000#36 (by decide),
    row 9 0xFFFFFFE03#36 0x000001400#36 (by decide), row 9 0xFFFFFFE03#36 0x100001400#36 (by decide),
    row 6 0xFFFFFFFC3#36 0x000001600#36 (by decide), row 6 0xFFFFFFFC3#36 0x100001600#36 (by decide),
    row 2 0xFFFFFFFFF#36 0x000001640#36 (by decide), row 2 0xFFFFFFFFF#36 0x100001640#36 (by decide)]
  by_cases h64kb : t.off.toNat < 0x1400
  · cases hw : t.write <;> simp [Transaction.entryAccess, hw, hlow, h64kb]
  have ge64kb := Nat.le_of_not_lt h64kb
  by_cases h32b : t.off.toNat < 0x1600
  · cases hw : t.write <;> simp [Transaction.entryAccess, hw, h64kb, ge64kb, h32b]
  have ge32b := Nat.le_of_not_lt h32b
  by_cases h1mb : t.off.toNat < 0x1640
  · cases hw : t.write <;> simp [Transaction.entryAccess, hw, h64kb, h32b, ge32b, h1mb]
  have ge1mb := Nat.le_of_not_lt h1mb
  cases hw : t.write <;> simp [Transaction.entryAccess, hw, h64kb, h32b, h1mb, ge1mb, hhigh]

/-- An admitted configuration access to such an offset. -/
theorem decode_cfg_entry {c : Config} {t : Transaction} (h : t.IsCfgWord) (hlt : t.off.toNat < c.cfgWindowSize)
    (hlow : 0x1000 ≤ t.off.toNat) (hhigh : t.off.toNat < 0x1644) :
    decode c (.transaction t) = .ok t.entryAccess := by
  have hexact : exactRows.find? (rowMatches t.key) = none := by
    rw [← Option.not_isSome_iff_eq_none, List.find?_isSome, ← List.any_eq_true, exactRows_any_iff h.win h.aligned]
    omega
  rw [decode_cfg h hlt, lookup_op h.win h.aligned, definedRows, List.find?_append, hexact, Option.none_or,
    permissionRamRows_op h.win h.aligned hlow hhigh]
  rfl

section Entry

variable {n : Nat} {base : Word} (k : BitVec n)

/-- The offset of entry `k` of a sub-block does not wrap. -/
theorem entryOffset_toNat (hn : n ≤ 8) (hbase : base.toNat < 0x1644) :
    (base + (k.setWidth 32 <<< 2)).toNat = base.toNat + 4 * k.toNat := by
  have hk : k.toNat < 2 ^ 8 := k.isLt.trans_le (Nat.pow_le_pow_right (by decide) hn)
  rw [BitVec.toNat_add, BitVec.toNat_shiftLeft, BitVec.toNat_setWidth, Nat.shiftLeft_eq]
  omega

/-- The index bits of the offset of entry `k` are `k` (rule R86). -/
theorem entryOffset_index (hn : n ≤ 8) (hbase : base.toNat < 0x1644) (haligned : 2 ^ (n + 2) ∣ base.toNat) :
    (base + (k.setWidth 32 <<< 2)).extractLsb' 2 n = k := by
  obtain ⟨q, hq⟩ := haligned
  have hoff : (base + (k.setWidth 32 <<< 2)).toNat / 2 ^ 2 = 2 ^ n * q + k.toNat := by
    rw [entryOffset_toNat k hn hbase, hq, Nat.pow_add, Nat.mul_right_comm, Nat.mul_comm _ (2 ^ 2), ← Nat.mul_add,
      Nat.mul_div_cancel_left _ (by decide)]
  apply BitVec.eq_of_toNat_eq
  rw [BitVec.extractLsb'_toNat, Nat.shiftRight_eq_div_pow, hoff, Nat.mul_add_mod, Nat.mod_eq_of_lt k.isLt]

/-- The encoder's delivery for an entry of a sub-block that is `op` over the whole sub-block is `op` of the entry. -/
theorem decode_cfgDelivery_entry {c : Config} {op : Bool → BitVec n → Bool → Word → Instr}
    (hop : ∀ t : Transaction, base.toNat ≤ t.off.toNat → t.off.toNat < base.toNat + 4 * 2 ^ n →
      t.entryAccess = op t.write (t.off.extractLsb' 2 n) t.secure t.word)
    (hn : n ≤ 8) (hlow : 0x1000 ≤ base.toNat) (hhigh : base.toNat + 4 * 2 ^ n ≤ 0x1644)
    (haligned : 2 ^ (n + 2) ∣ base.toNat) (hwindow : c.decodes (base.toNat + 4 * k.toNat) = true)
    (write secure : Bool) (data : Word) :
    decode c (cfgDelivery write (base + (k.setWidth 32 <<< 2)) secure data) = .ok (op write k secure data) := by
  have hk := k.isLt
  have hbase : base.toNat < 0x1644 := by omega
  have hoff := entryOffset_toNat k hn hbase
  have hword : 4 ∣ base.toNat := (Nat.pow_dvd_pow 2 (Nat.le_add_left 2 n)).trans haligned
  have hentry := hop (cfgTransaction write (base + (k.setWidth 32 <<< 2)) secure data)
  simp only [cfgTransaction_off, cfgTransaction_write, cfgTransaction_secure, cfgTransaction_word,
    entryOffset_index k hn hbase haligned] at hentry
  rw [cfgDelivery_eq, ← hentry (by omega) (by omega)]
  refine decode_cfg_entry (cfgTransaction_isCfgWord write (by omega) secure data) ?_ ?_ ?_ <;>
    rw [cfgTransaction_off, hoff]
  · exact of_decide_eq_true hwindow
  · omega
  · omega

end Entry

/-- The entries of the 64 KB sub-block round-trip (rules R192, R196). -/
theorem decode_apl64kb {c : Config} (k : BitVec 8) (hwindow : c.decodes (0x1000 + 4 * k.toNat) = true)
    (write secure : Bool) (data : Word) :
    decode c (cfgDelivery write (0x1000#32 + (k.setWidth 32 <<< 2)) secure data) =
      .ok (if write then .cfgWrApl64kb k secure data else .cfgRdApl64kb k secure) :=
  decode_cfgDelivery_entry (base := 0x1000#32) (op := fun w k s d => if w then .cfgWrApl64kb k s d else .cfgRdApl64kb k s)
    k (fun _ _ hlt => if_pos hlt) (by decide) (by decide) (by decide) (by decide) hwindow write secure data

/-- The entries of the 32-byte sub-block round-trip (rules R193, R197). -/
theorem decode_apl32b {c : Config} (k : BitVec 7) (hwindow : c.decodes (0x1400 + 4 * k.toNat) = true)
    (write secure : Bool) (data : Word) :
    decode c (cfgDelivery write (0x1400#32 + (k.setWidth 32 <<< 2)) secure data) =
      .ok (if write then .cfgWrApl32b k secure data else .cfgRdApl32b k secure) :=
  decode_cfgDelivery_entry (base := 0x1400#32) (op := fun w k s d => if w then .cfgWrApl32b k s d else .cfgRdApl32b k s)
    k (fun _ hge hlt => (if_neg (Nat.not_lt.mpr hge)).trans (if_pos hlt)) (by decide) (by decide) (by decide) (by decide)
    hwindow write secure data

/-- The entries of the 1 MB sub-block round-trip (rules R194, R198). -/
theorem decode_apl1mb {c : Config} (k : BitVec 4) (hwindow : c.decodes (0x1600 + 4 * k.toNat) = true)
    (write secure : Bool) (data : Word) :
    decode c (cfgDelivery write (0x1600#32 + (k.setWidth 32 <<< 2)) secure data) =
      .ok (if write then .cfgWrApl1mb k secure data else .cfgRdApl1mb k secure) :=
  decode_cfgDelivery_entry (base := 0x1600#32) (op := fun w k s d => if w then .cfgWrApl1mb k s d else .cfgRdApl1mb k s)
    k (fun _ hge hlt => (if_neg (Nat.not_lt.mpr (Nat.le_trans (by decide) hge))).trans
      ((if_neg (Nat.not_lt.mpr hge)).trans (if_pos hlt))) (by decide) (by decide) (by decide) (by decide)
    hwindow write secure data

/-! ### Holes and out-of-range offsets -/

/-- A hole's delivery round-trips (rule R87). -/
theorem decode_hole {c : Config} {off : Word} (hwf : (c.decodes off.toNat && isHoleOffset off) = true)
    (write secure : Bool) (data : Word) :
    decode c (cfgDelivery write off secure data) =
      .ok (if write then .cfgWrHole off secure data else .cfgRdHole off secure) := by
  obtain ⟨hwindow, hhole⟩ := Bool.and_eq_true_iff.mp hwf
  have haligned : off.toNat % 4 = 0 := by simp_all [isHoleOffset]
  have hlt : off.toNat < 0x200 := by
    have := (isHoleOffset_iff haligned).mp hhole
    omega
  rw [cfgDelivery_eq, decode_cfg_undefined (cfgTransaction_isCfgWord write haligned secure data)
    (of_decide_eq_true hwindow) (.inl hhole), cfgTransaction_off,
    if_pos hlt, Transaction.hole]
  simp

/-- An out-of-range delivery round-trips (rule R88). -/
theorem decode_outOfRange {c : Config} {off : Word} (hwf : (c.decodes off.toNat && isOutOfRangeOffset off) = true)
    (write secure : Bool) (data : Word) :
    decode c (cfgDelivery write off secure data) =
      .ok (if write then .cfgWrOor off secure data else .cfgRdOor off secure) := by
  obtain ⟨hwindow, hout⟩ := Bool.and_eq_true_iff.mp hwf
  have haligned : off.toNat % 4 = 0 := by simp_all [isOutOfRangeOffset]
  have hge : ¬off.toNat < 0x200 := by
    have := (isOutOfRangeOffset_iff haligned).mp hout
    omega
  rw [cfgDelivery_eq, decode_cfg_undefined (cfgTransaction_isCfgWord write haligned secure data)
    (of_decide_eq_true hwindow) (.inr hout), cfgTransaction_off,
    if_neg hge, Transaction.outOfRange]
  simp

/-! ### Aperture accesses: the rows of a window and a direction -/

/-- Every row before the aperture rows is of the configuration window. -/
theorem configRows_window : ∀ r ∈ exactRows ++ (permissionRamRows ++ decodeErrorRows),
    r.mask.extractLsb' 33 3 = 7#3 ∧ r.pattern.extractLsb' 33 3 = 0#3 := by decide

/-- The aperture rows compare the window code and the direction alone (rule R72). -/
theorem apertureRows_mask : ∀ r ∈ apertureRows, r.mask = BitVec.allOnes 4 ++ 0#32 := by decide

/-- What an aperture row compares of a key. -/
theorem key_and_apertureMask (t : Transaction) :
    t.key &&& (BitVec.allOnes 4 ++ 0#32) = (t.win ++ BitVec.ofBool t.write) ++ 0#32 := by
  rw [Transaction.key]
  exact BitVec.and_append.trans (by rw [BitVec.and_allOnes, BitVec.and_zero])

/-- The row of a key of an aperture window. -/
theorem lookup_of_aperture_window {t : Transaction} (h : t.win ≠ 0#3) :
    lookup t.key = apertureRows.find? (fun r => (t.win ++ BitVec.ofBool t.write) ++ 0#32 == r.pattern) := by
  have hconfig : (exactRows ++ (permissionRamRows ++ decodeErrorRows)).find? (rowMatches t.key) = none := by
    refine List.find?_eq_none.mpr fun r hr hm => ?_
    obtain ⟨hmask, hpattern⟩ := configRows_window r hr
    exact h ((window_of_rowMatches hmask hm).trans hpattern)
  have haperture : apertureRows.find? (rowMatches t.key) =
      apertureRows.find? (fun r => (t.win ++ BitVec.ofBool t.write) ++ 0#32 == r.pattern) := by
    refine List.find?_congr fun r hr => ?_
    rw [rowMatches, apertureRows_mask r hr, key_and_apertureMask]
  simp only [List.find?_append, Option.or_eq_none_iff] at hconfig
  obtain ⟨hexact, hram, herror⟩ := hconfig
  rw [lookup_eq, hexact, hram, herror, haperture, Option.none_or, Option.none_or, Option.none_or]

/-- An aperture delivery is the operation of the row of its window and direction; its offset and size are admitted where
it runs (rules R55, R72). -/
theorem decode_apDelivery (c : Config) {win : BitVec 3} {write : Bool} {r : OpRow} {off : Word} {size : Nat}
    {masterId : Word} {secure : Bool} {data : BitVec 64} {i : Instr} (hwin : (win == 0#3) = false)
    (hrow : apertureRows.find? (fun row => (win ++ BitVec.ofBool write) ++ 0#32 == row.pattern) = some r)
    (hop : r.op ⟨win, write, off, size, false, masterId, secure, data⟩ = i) :
    decode c (apDelivery win write off size masterId secure data) = .ok i := by
  have hlookup := lookup_of_aperture_window (t := ⟨win, write, off, size, false, masterId, secure, data⟩)
    (ne_of_beq_false hwin)
  simp [decode, apDelivery, decodeTransaction, hlookup, hrow, hwin, hop]

/-! ### Every instruction -/

/-- The decoder reads back every well-formed instruction. The last case is that of the operations with one key each: the
registers and the 512 MB entry. -/
theorem decode_encode {c : Config} {i : Instr} (hwf : i.wf c = true) : decode c (encode i) = .ok i := by
  cases i with
  | cfgRdApl64kb k secure => exact decode_apl64kb k hwf false secure 0#32
  | cfgWrApl64kb k secure data => exact decode_apl64kb k hwf true secure data
  | cfgRdApl32b k secure => exact decode_apl32b k hwf false secure 0#32
  | cfgWrApl32b k secure data => exact decode_apl32b k hwf true secure data
  | cfgRdApl1mb k secure => exact decode_apl1mb k hwf false secure 0#32
  | cfgWrApl1mb k secure data => exact decode_apl1mb k hwf true secure data
  | cfgRdHole off secure => exact decode_hole hwf false secure 0#32
  | cfgWrHole off secure data => exact decode_hole hwf true secure data
  | cfgRdOor off secure => exact decode_outOfRange hwf false secure 0#32
  | cfgWrOor off secure data => exact decode_outOfRange hwf true secure data
  | apRd32b | apWr32b | apRd64kb | apWr64kb | apRd1mb | apWr1mb | apRd512mb | apWr512mb =>
    exact decode_apDelivery c rfl rfl rfl
  | reset => rfl
  | _ => exact decode_cfgDelivery_of_lookup rfl rfl hwf (by simp [rdRow, wrRow])

/-! ### The bit image (notes/assumptions/9.md) -/

/-- The size field is read back. -/
theorem sizeOfField_xor {size : Nat} (h : size < 256) : sizeOfField (BitVec.ofNat 8 size ^^^ 4#8) = size := by
  rw [sizeOfField, BitVec.xor_assoc, BitVec.xor_self, BitVec.xor_zero, BitVec.toNat_ofNat, Nat.mod_eq_of_lt h]

/-- The image as a number: the operands above the key. -/
theorem toImage_toNat (t : Transaction) :
    t.toImage.toNat = t.data.toNat * 2 ^ 78 + t.masterId.toNat * 2 ^ 46 +
      (BitVec.ofNat 8 t.size ^^^ 4#8).toNat * 2 ^ 38 + t.atomic.toNat * 2 ^ 37 + (!t.secure).toNat * 2 ^ 36 +
        t.key.toNat := by
  simp only [Transaction.toImage, Machine.toNat_append_eq_add, BitVec.toNat_ofBool]
  ring

/-- The image of a transaction is read back. -/
theorem ofImage_toImage {t : Transaction} (h : t.size < 256) : Transaction.ofImage t.toImage = t := by
  have hoff := t.off.isLt
  have hwin := t.win.isLt
  have hsize := (BitVec.ofNat 8 t.size ^^^ 4#8).isLt
  have hid := t.masterId.isLt
  have hwrite := t.write.toNat_lt
  have hatomic := t.atomic.toNat_lt
  have hsecure := (!t.secure).toNat_lt
  have himage := toImage_toNat t
  rw [Transaction.key_toNat] at himage
  have field {n : Nat} (start : Nat) (x : BitVec n) (hx : t.toImage.toNat / 2 ^ start % 2 ^ n = x.toNat) :
      t.toImage.extractLsb' start n = x :=
    BitVec.eq_of_toNat_eq (by rw [BitVec.extractLsb'_toNat, Nat.shiftRight_eq_div_pow, hx])
  have flag (place : Nat) (b : Bool) (hb : t.toImage.toNat / 2 ^ place % 2 = b.toNat) :
      t.toImage.getLsbD place = b := by
    rw [← BitVec.testBit_toNat, Nat.testBit_eq_decide_div_mod_eq, hb]
    cases b <;> rfl
  simp only [Transaction.ofImage, field 0 t.off (by omega), flag 32 t.write (by omega), field 33 t.win (by omega),
    flag 36 (!t.secure) (by omega), Bool.not_not, flag 37 t.atomic (by omega),
    field 38 (BitVec.ofNat 8 t.size ^^^ 4#8) (by omega), sizeOfField_xor h, field 46 t.masterId (by omega),
    field 78 t.data (by omega)]

/-- The table's decoder on an image is the decoder on its transaction, in the default instance. -/
theorem decodeTableWord_toImage {t : Transaction} (h : t.size < 256) {i : Instr}
    (hi : decode Config.default (.transaction t) = .ok i) : decodeTableWord 142 t.toImage.toNat = some i := by
  have himage : BitVec.ofNat imageBits t.toImage.toNat = t.toImage :=
    (BitVec.ofNat_toNat 142 t.toImage).trans (BitVec.setWidth_eq t.toImage)
  have hword : Delivery.ofTableWord 142 t.toImage.toNat = .transaction t := by
    rw [Delivery.ofTableWord, if_neg (by decide), Nat.mod_eq_of_lt t.toImage.isLt, himage, ofImage_toImage h]
  rw [decodeTableWord, hword, hi]

/-- The decoder uses nothing of the instance but the size of its configuration window. -/
theorem decode_congr_window {c c' : Config} (h : c.cfgWindowSize = c'.cfgWindowSize) (d : Delivery) :
    decode c d = decode c' d := by
  have hdecodes : c.decodes = c'.decodes := funext fun off => by simp only [Config.decodes, h]
  cases d with
  | reset => rfl
  | transaction t => rw [decode, decode, decodeTransaction, decodeTransaction, hdecodes]

/-- An admitted aperture access has a size of at most 8 bytes (rule R55). -/
theorem size_lt_of_apertureFits {d : ApertureDesc} {off : Word} {size : Nat} (h : apertureFits d off size = true) :
    size < 256 := by
  obtain ⟨hsize, -⟩ := (Machine.apertureFits_iff d off size).mp h
  omega

/-- A well-formed instruction but reset is delivered as a transaction whose size has an image. -/
theorem encode_transaction {c : Config} {i : Instr} (hwf : i.wf c = true) (hi : i ≠ .reset) :
    ∃ t, encode i = .transaction t ∧ t.size < 256 := by
  cases i with
  | apRd32b | apWr32b | apRd64kb | apWr64kb | apRd1mb | apWr1mb | apRd512mb | apWr512mb =>
    exact ⟨_, rfl, size_lt_of_apertureFits hwf⟩
  | reset => exact absurd rfl hi
  | _ => exact ⟨_, rfl, (by decide : 4 < 256)⟩

end Sys2Proof

namespace Sys2Proof.Machine

open Sys2Proof

/-- Settles O1, family by family. -/
theorem decodeOfEncodeIsIdentity : Obligations.DecodeOfEncodeIsIdentity :=
  fun _ _ => decode_encode

/-- Settles O2: the image gives the transaction back, and the decoder the instruction. -/
theorem imageOfEncodeDecodesBack : Obligations.ImageOfEncodeDecodesBack := by
  intro c i hwindow hwf hi
  obtain ⟨t, ht, hsize⟩ := encode_transaction hwf hi
  have hdecode : decode Config.default (.transaction t) = .ok i := by
    rw [← decode_congr_window hwindow, ← ht, decode_encode hwf]
  rw [encodeImage, ht]
  exact decodeTableWord_toImage hsize hdecode

end Sys2Proof.Machine
end

section
/-! PROOFS. The configuration registers: the row of each key, the completion of a configuration access, and the
registers' reads and writes. -/

namespace Sys2Proof

/-- Every register row is of an aligned offset (rule R54). -/
theorem exactRows_aligned : ∀ r ∈ exactRows, (r.pattern.setWidth 32).toNat % 4 = 0 := by decide

/-- A key that a register row matches is that row's operation in every admitted transaction (rules R72, R92). -/
theorem decodesTo_of_exactRow {key : BitVec 36} {op : Transaction → Instr}
    (hrow : (exactRows.find? (rowMatches key)).map OpRow.op = some op) : Machine.DecodesTo key op := by
  intro c t hkey hlt hatomic hsize
  obtain ⟨r, hfind, hop⟩ := Option.map_eq_some_iff.mp hrow
  have hmem := List.mem_of_find?_eq_some hfind
  have hpattern : key = r.pattern := (rowMatches_exactRow hmem key).mp (List.find?_some hfind)
  obtain ⟨-, hwindow⟩ := configRows_window r (List.mem_append_left _ hmem)
  have hcfg : t.IsCfgWord :=
    { win := by rw [← Transaction.key_window, hkey, hpattern, hwindow]
      atomic := hatomic
      size := hsize
      aligned := by rw [← Transaction.key_offset, hkey, hpattern, exactRows_aligned r hmem] }
  rw [decode_cfg hcfg hlt, hkey, lookup_eq, hfind, ← hop]
  rfl

/-- The row of the read key of Master-ID register `i`. -/
theorem midRd_row (i : Fin 20) :
    (exactRows.find? (rowMatches (0x000000100#36 + BitVec.ofNat 36 (4 * i)))).map OpRow.op =
      some fun t => .midRd i t.secure := by
  fin_cases i <;> rfl

/-- The row of the write key of Master-ID register `i`. -/
theorem midWr_row (i : Fin 20) :
    (exactRows.find? (rowMatches (0x100000100#36 + BitVec.ofNat 36 (4 * i)))).map OpRow.op =
      some fun t => .midWr i t.secure (t.data.setWidth 32) := by
  fin_cases i <;> rfl

end Sys2Proof

namespace Sys2Proof.Machine

open Sys2Proof

/-! ### Configuration accesses (rule R100) -/

/-- What a configuration access of each kind does: a read or a write behind the secure attribute, or a hole access. -/
inductive ConfigOutcome (s : State) : OpKind → Result → Prop where
  | read {k : OpKind} (b : Bool) (v : Word) (h : k = .defined false b ∨ k = .outOfRange false b) :
      ConfigOutcome s k (cfgRead b v s)
  | write {k : OpKind} (b : Bool) (store : State → State) (h : k = .defined true b ∨ k = .outOfRange true b) :
      ConfigOutcome s k (cfgWrite b store s)
  | holeRead (b : Bool) : ConfigOutcome s (.hole false b) (holeRead s)
  | holeWrite (b : Bool) : ConfigOutcome s (.hole true b) (holeWrite s)

/-- A write to a read-only register is a write that stores nothing. -/
theorem cfgWriteIgnored_eq (b : Bool) (s : State) : cfgWriteIgnored s = cfgWrite b (fun t => t) s := by
  rw [cfgWrite, ite_self, cfgWriteIgnored]

/-- A write to a read-only register, by its kind. -/
theorem configOutcome_ignored (b : Bool) (s : State) : ConfigOutcome s (.defined true b) (cfgWriteIgnored s) := by
  rw [cfgWriteIgnored_eq b s]
  exact .write b _ (.inl rfl)

/-- A Master-ID write, by its kind. -/
theorem configOutcome_midWrite (i : Fin 20) (b : Bool) (d : Word) (s : State) :
    ConfigOutcome s (.defined true b) (midWrite i b d s) :=
  .write b _ (.inl rfl)

/-- A permission-RAM read, by its kind. -/
theorem configOutcome_ramRead (k : Nat) (b : Bool) (s : State) :
    ConfigOutcome s (.defined false b) (cfgRamRead k b s) := by
  rw [cfgRamRead_eq]
  exact .read b _ (.inl rfl)

/-- A permission-RAM write, by its kind. -/
theorem configOutcome_ramWrite (k : Nat) (b : Bool) (d : Word) (s : State) :
    ConfigOutcome s (.defined true b) (cfgRamWrite k b d s) := by
  rw [cfgRamWrite_eq]
  exact .write b _ (.inl rfl)

/-- An out-of-range read, by its kind. -/
theorem configOutcome_unlistedRead (off : Word) (b : Bool) (s : State) :
    ConfigOutcome s (.outOfRange false b) (unlistedRead off b s) := by
  rw [unlistedRead_eq]
  exact .read b _ (.inr rfl)

/-- An out-of-range write, by its kind. -/
theorem configOutcome_unlistedWrite (off : Word) (b : Bool) (d : Word) (s : State) :
    ConfigOutcome s (.outOfRange true b) (unlistedWrite off b d s) := by
  rw [unlistedWrite_eq]
  exact .write b _ (.inr rfl)

/-- Every configuration access, by its kind. The last case is that of the register reads. -/
theorem exec_config {i : Instr} (haperture : ∀ b, i.kind ≠ .aperture b) (hreset : i ≠ .reset) (s : State) :
    ConfigOutcome s i.kind (exec i s) := by
  cases i with
  | cfgRdHole off b => exact .holeRead b
  | cfgWrHole off b d => exact .holeWrite b
  | cfgRdOor off b => exact configOutcome_unlistedRead off b s
  | cfgWrOor off b d => exact configOutcome_unlistedWrite off b d s
  | cfgRdApl64kb _ b | cfgRdApl32b _ b | cfgRdApl1mb _ b | cfgRdApl512mb b => exact configOutcome_ramRead _ b s
  | cfgWrApl64kb _ b d | cfgWrApl32b _ b d | cfgWrApl1mb _ b d | cfgWrApl512mb b d =>
    exact configOutcome_ramWrite _ b d s
  | cfgWrErrStatus1 b | cfgWrErrStatus2 b | cfgWrImr b | cfgWrMMasterIds b | cfgWrMAperture32b b
  | cfgWrMAperture64kb b | cfgWrMAperture1mb b | cfgWrMAperture512mb b | cfgWrBase32b b | cfgWrBase64kb b
  | cfgWrBase1mb b | cfgWrBase512mb b => exact configOutcome_ignored b s
  | cfgWrCtrl b | cfgWrPoison b | cfgWrIsr b | cfgWrIen b | cfgWrIds b | cfgWrEco b | cfgWrRamAdj b =>
    dsimp only [exec]
    exact .write b _ (.inl rfl)
  | cfgWrMasterId00 b | cfgWrMasterId01 b | cfgWrMasterId02 b | cfgWrMasterId03 b | cfgWrMasterId04 b
  | cfgWrMasterId05 b | cfgWrMasterId06 b | cfgWrMasterId07 b | cfgWrMasterId08 b | cfgWrMasterId09 b
  | cfgWrMasterId10 b | cfgWrMasterId11 b | cfgWrMasterId12 b | cfgWrMasterId13 b | cfgWrMasterId14 b
  | cfgWrMasterId15 b | cfgWrMasterId16 b | cfgWrMasterId17 b | cfgWrMasterId18 b | cfgWrMasterId19 b =>
    exact configOutcome_midWrite _ b _ s
  | apRd32b | apWr32b | apRd64kb | apWr64kb | apRd1mb | apWr1mb | apRd512mb | apWr512mb =>
    exact absurd rfl (haperture _)
  | reset => exact absurd rfl hreset
  | _ b => exact .read b _ (.inl rfl)

/-- Every form answers OK (rule R100). -/
theorem ConfigOutcome.completes {s : State} {k : OpKind} {r : Result} (h : ConfigOutcome s k r) :
    ∃ t : State, r = .next t ∧ (t.answer = .write .ok ∨ ∃ v, t.answer = .read v .ok) := by
  cases h with
  | read | holeRead => exact ⟨_, rfl, .inr ⟨_, rfl⟩⟩
  | write | holeWrite => exact ⟨_, rfl, .inl rfl⟩

/-- Settles O29, by the form of each access. -/
theorem configAccessCompletesOk : Obligations.ConfigAccessCompletesOk :=
  fun _ s haperture hreset => (exec_config haperture hreset s).completes

/-- A non-secure access that is no hole answers 0 or OK and changes nothing else (rules R100, R252). -/
theorem ConfigOutcome.nonSecure {s : State} {k : OpKind} {r : Result} (h : ConfigOutcome s k r) {w : Bool}
    (hk : k = .defined w false ∨ k = .outOfRange w false) :
    r = .next { s with answer := if w = true then .write .ok else .read 0#64 .ok } := by
  cases h with
  | read b v h =>
    obtain ⟨rfl, rfl⟩ : w = false ∧ false = b := by rcases hk with rfl | rfl <;> simpa using h
    rfl
  | write b store h =>
    obtain ⟨rfl, rfl⟩ : w = true ∧ false = b := by rcases hk with rfl | rfl <;> simpa using h
    rfl
  | holeRead | holeWrite => simp at hk

/-- Settles O26, by the form of each access. -/
theorem nonSecureConfigAccessIsDropped : Obligations.NonSecureConfigAccessIsDropped := by
  intro i w s hkind
  refine (exec_config (fun b hb => ?_) ?_ s).nonSecure hkind
  · rw [hb] at hkind
    simp at hkind
  · rintro rfl
    simp [Instr.kind] at hkind

/-- Settles O27, the hole steps of rules R141 and R142. -/
theorem holeAccessSetsInvApb : Obligations.HoleAccessSetsInvApb :=
  fun _ _ _ _ => ⟨rfl, rfl⟩

/-! ### Register reads -/

/-- A register row whose operation is a configuration read of `value`. -/
theorem readsAs_of_cfgRead {key : BitVec 36} {op : Bool → Instr} {value : State → Word}
    (hrow : (exactRows.find? (rowMatches key)).map OpRow.op = some fun t => op t.secure)
    (hexec : ∀ s, exec (op true) s = cfgRead true (value s) s) : ReadsAs key op value :=
  ⟨decodesTo_of_exactRow hrow, hexec⟩

/-- Settles O16: six register rows, each a read of the stored bits. -/
theorem storedRegisterReads : Obligations.StoredRegisterReads := by
  refine ⟨?_, ?_, ?_, ?_, ?_, ?_⟩ <;> exact readsAs_of_cfgRead rfl fun _ => rfl

/-- Settles O17: four register rows, ISR and IMR read through the stored-bit mask. -/
theorem interruptRegisterReads : Obligations.InterruptRegisterReads := by
  refine ⟨?_, ?_, ?_, ?_⟩ <;> exact readsAs_of_cfgRead rfl fun _ => rfl

/-- Settles O18: nine register rows, each a read of a constant or of a parameter. -/
theorem capabilityAndBaseReads : Obligations.CapabilityAndBaseReads := by
  refine ⟨?_, ?_, ?_, ?_, ?_, ?_, ?_, ?_, ?_⟩ <;> exact readsAs_of_cfgRead rfl fun _ => rfl

/-- Settles O24, by `mid_read` at each index. -/
theorem masterIdRegisterReads : Obligations.MasterIdRegisterReads :=
  fun i => readsAs_of_cfgRead (midRd_row i) (exec_midRd i true)

/-! ### Register writes -/

/-- A register row whose operation is a configuration write with `effect`. -/
theorem writesAs_of_cfgWrite {key : BitVec 36} {op : Bool → Word → Instr} {store effect : Word → State → State}
    (hrow : (exactRows.find? (rowMatches key)).map OpRow.op = some fun t => op t.secure (t.data.setWidth 32))
    (hexec : ∀ s data, exec (op true data) s = cfgWrite true (store data) s)
    (hstore : ∀ data s, store data s = effect data s) : WritesAs key op effect := by
  refine ⟨decodesTo_of_exactRow hrow, fun s data => ?_⟩
  rw [hexec, ← hstore]
  rfl

/-- A register row whose operation is an ignored write. -/
theorem writesAs_of_ignored {key : BitVec 36} {op : Bool → Word → Instr}
    (hrow : (exactRows.find? (rowMatches key)).map OpRow.op = some fun t => op t.secure (t.data.setWidth 32))
    (hexec : ∀ s data, exec (op true data) s = cfgWriteIgnored s) : WritesAs key op (fun _ s => s) :=
  ⟨decodesTo_of_exactRow hrow, hexec⟩

/-- Settles O19: twelve register rows, each an ignored write. -/
theorem readOnlyRegisterWritesIgnored : Obligations.ReadOnlyRegisterWritesIgnored := by
  refine ⟨?_, ?_, ?_, ?_, ?_, ?_, ?_, ?_, ?_, ?_, ?_, ?_⟩ <;>
    exact writesAs_of_ignored rfl fun _ _ => rfl

/-- A CTRL write, by the parity of the Master-ID registers under the new MID_PARITY_EN (rules R101, R103). -/
theorem writeCtrl_eq (data : Word) (s : State) :
    s.writeCtrl data =
      { s with
        ctrl := data.extractLsb' 0 3
        winEn := WinEn.all (data.getLsbD 0)
        isr :=
          if data.getLsbD 1 = true ∧ s.cfg.revalidateSetsIsr = true ∧ ∃ i : Fin 20, midParityOk s.mid[i] = false then
            s.isr ||| 0x08#8
          else s.isr } := by
  have henable : (data.extractLsb' 0 3).getLsbD 1 = data.getLsbD 1 := by simp
  rw [State.writeCtrl, revalidateAll_eq]
  simp only [henable]
  split <;> rfl

/-- Settles O20, by the CTRL write's equation. -/
theorem ctrlWriteEnablesAndRevalidates : Obligations.CtrlWriteEnablesAndRevalidates :=
  writesAs_of_cfgWrite rfl (fun _ _ => rfl) writeCtrl_eq

/-- Settles O25, by `mid_write` at each index. -/
theorem masterIdRegisterWrites : Obligations.MasterIdRegisterWrites :=
  fun i => writesAs_of_cfgWrite (midWr_row i) (fun s data => exec_midWr i true data s) (setMid_revalidateMid i)

/-- The POISON store, where the parameter allows it (rule R109). -/
theorem poisonStore_eq (data : Word) (s : State) :
    (if s.cfg.poisonWritable then { s with poison := data.setWidth 20 } else s) =
      { s with poison := if s.cfg.poisonWritable = true then data.extractLsb' 0 20 else s.poison } := by
  split <;> rfl

/-- Settles O21: three register rows, POISON's store under its parameter. -/
theorem storageRegisterWrites : Obligations.StorageRegisterWrites :=
  ⟨writesAs_of_cfgWrite rfl (fun _ _ => rfl) poisonStore_eq, writesAs_of_cfgWrite rfl (fun _ _ => rfl) fun _ _ => rfl,
    writesAs_of_cfgWrite rfl (fun _ _ => rfl) fun _ _ => rfl⟩

/-! ### The interrupt registers -/

/-- Settles O22: three register rows, each a write of the low byte under the stored-bit mask. -/
theorem interruptRegisterWrites : Obligations.InterruptRegisterWrites := by
  refine ⟨?_, ?_, ?_⟩ <;> exact writesAs_of_cfgWrite rfl (fun _ _ => rfl) fun _ _ => rfl

/-- Setting and then clearing bits that were clear changes nothing. -/
theorem or_and_not_of_and_eq_zero {n : Nat} {x m : BitVec n} (h : x &&& m = 0#n) : (x ||| m) &&& ~~~m = x := by
  ext i hi
  have hbit : (x[i] && m[i]) = false := by rw [← BitVec.getElem_and, h, BitVec.getElem_zero]
  cases hm : m[i] with
  | false => simp [hm]
  | true =>
    rw [hm, Bool.and_true] at hbit
    simp [hm, hbit]

/-- Settles O23: the two writes use the same bits, and none of them was set. -/
theorem idsThenIenRestoresClearBits : Obligations.IdsThenIenRestoresClearBits := by
  intro s t u data hids hien hclear
  obtain ⟨-, ⟨-, ien⟩, -, ids⟩ := interruptRegisterWrites
  cases (ids s data).symm.trans hids
  cases (ien _ data).symm.trans hien
  refine or_and_not_of_and_eq_zero (BitVec.eq_of_getLsbD_eq fun n hn => ?_)
  cases hdata : data.getLsbD n with
  | false => simp [hdata]
  | true => simp [hclear n hn hdata]

/-! ### Words written out -/

/-- Settles O4, by running the decoder on each word. -/
theorem writtenOutWordsDecode : Obligations.WrittenOutWordsDecode := by
  unfold Obligations.WrittenOutWordsDecode
  and_intros <;> decide

end Sys2Proof.Machine
end

section
/-! PROOFS. The permission-RAM window: the operation of each entry's key, and the entries' reads and writes. -/

namespace Sys2Proof

/-! ### The entry an offset names (rule R86) -/

/-- An offset of a sub-block holds the index of its entry, and stands in the sub-block's range. -/
theorem index_range_of_entryOffset {n b : Nat} {k : BitVec n} {base off : Word} (hb : base.toNat = b)
    (h : off = base + (k.setWidth 32 <<< 2)) (hn : n ≤ 8) (hbase : b < 0x1644) (haligned : 2 ^ (n + 2) ∣ b) :
    off.extractLsb' 2 n = k ∧ b ≤ off.toNat ∧ off.toNat < b + 4 * 2 ^ n := by
  subst hb
  have hk := k.isLt
  rw [h, entryOffset_toNat k hn hbase]
  exact ⟨entryOffset_index k hn hbase haligned, by omega, by omega⟩

section Entry

variable {t : Transaction}

/-- An access to an entry of the 64 KB sub-block (rules R192, R196). -/
theorem entryAccess_apl64kb {k : BitVec 8} (h : t.off = 0x1000#32 + (k.setWidth 32 <<< 2)) :
    t.entryAccess = if t.write then .cfgWrApl64kb k t.secure t.word else .cfgRdApl64kb k t.secure := by
  obtain ⟨hindex, hlow, hhigh⟩ := index_range_of_entryOffset (b := 0x1000) rfl h (by decide) (by decide) (by decide)
  rw [Transaction.entryAccess, if_pos (by omega), hindex]

/-- An access to an entry of the 32-byte sub-block (rules R193, R197). -/
theorem entryAccess_apl32b {k : BitVec 7} (h : t.off = 0x1400#32 + (k.setWidth 32 <<< 2)) :
    t.entryAccess = if t.write then .cfgWrApl32b k t.secure t.word else .cfgRdApl32b k t.secure := by
  obtain ⟨hindex, hlow, hhigh⟩ := index_range_of_entryOffset (b := 0x1400) rfl h (by decide) (by decide) (by decide)
  rw [Transaction.entryAccess, if_neg (by omega), if_pos (by omega), hindex]

/-- An access to an entry of the 1 MB sub-block (rules R194, R198). -/
theorem entryAccess_apl1mb {k : BitVec 4} (h : t.off = 0x1600#32 + (k.setWidth 32 <<< 2)) :
    t.entryAccess = if t.write then .cfgWrApl1mb k t.secure t.word else .cfgRdApl1mb k t.secure := by
  obtain ⟨hindex, hlow, hhigh⟩ := index_range_of_entryOffset (b := 0x1600) rfl h (by decide) (by decide) (by decide)
  rw [Transaction.entryAccess, if_neg (by omega), if_neg (by omega), if_pos (by omega), hindex]

/-- An access to the 512 MB entry (rules R195, R199). -/
theorem entryAccess_apl512mb (h : t.off = 0x1640#32) :
    t.entryAccess = if t.write then .cfgWrApl512mb t.secure t.word else .cfgRdApl512mb t.secure := by
  rw [Transaction.entryAccess, h]
  rfl

end Entry

/-! ### The operation of an entry's key -/

/-- A key in the configuration window fixes the window code, the direction and the offset (rule R70). -/
theorem fields_of_key_toNat {t : Transaction} {write : Bool} {off : Word}
    (h : t.key.toNat = write.toNat * 2 ^ 32 + off.toNat) : t.win = 0#3 ∧ t.write = write ∧ t.off = off := by
  have hwrite := t.write.toNat_lt
  have hwrite' := write.toNat_lt
  have hoff := t.off.isLt
  have hoff' := off.isLt
  rw [Transaction.key_toNat] at h
  have toNat_injective : Function.Injective Bool.toNat := Function.LeftInverse.injective Bool.ofNat_toNat
  exact ⟨BitVec.eq_of_toNat_eq (by rw [BitVec.toNat_zero]; omega), toNat_injective (by omega),
    BitVec.eq_of_toNat_eq (by omega)⟩

/-- The key of an offset of the permission-RAM rows is that offset's operation in every admitted transaction. -/
theorem decodesTo_of_entryAccess {key : BitVec 36} {write : Bool} {off : Word} {op : Transaction → Instr}
    (hkey : key.toNat = write.toNat * 2 ^ 32 + off.toNat) (haligned : off.toNat % 4 = 0)
    (hlow : 0x1000 ≤ off.toNat) (hhigh : off.toNat < 0x1644)
    (hop : ∀ t : Transaction, t.write = write → t.off = off → t.entryAccess = op t) : Machine.DecodesTo key op := by
  intro c t ht hlt hatomic hsize
  obtain ⟨hwin, hwrite, rfl⟩ := fields_of_key_toNat (ht ▸ hkey)
  rw [decode_cfg_entry ⟨hwin, hatomic, hsize, haligned⟩ hlt hlow hhigh, hop t hwrite rfl]

/-- The keys of a sub-block's entries, from the sub-block's first key on. -/
theorem decodesTo_of_subBlock {n : Nat} (k : BitVec n) {pattern : BitVec 36} {write : Bool} {base : Word}
    {op : Transaction → Instr} (hpattern : pattern.toNat = write.toNat * 2 ^ 32 + base.toNat) (hn : n ≤ 8)
    (haligned : base.toNat % 4 = 0) (hlow : 0x1000 ≤ base.toNat) (hhigh : base.toNat + 4 * 2 ^ n ≤ 0x1644)
    (hop : ∀ t : Transaction, t.write = write → t.off = base + (k.setWidth 32 <<< 2) → t.entryAccess = op t) :
    Machine.DecodesTo (pattern + (k.setWidth 36 <<< 2)) op := by
  have hk := k.isLt
  have hk' : k.toNat < 2 ^ 8 := hk.trans_le (Nat.pow_le_pow_right (by decide) hn)
  have hwrite := write.toNat_lt
  have hoff := entryOffset_toNat k hn (base := base) (by omega)
  have hkey : (pattern + (k.setWidth 36 <<< 2)).toNat = pattern.toNat + 4 * k.toNat := by
    rw [BitVec.toNat_add, BitVec.toNat_shiftLeft, BitVec.toNat_setWidth, Nat.shiftLeft_eq]
    omega
  exact decodesTo_of_entryAccess (by omega) (by omega) (by omega) (by omega) hop

section Key

variable {pattern : BitVec 36} {write : Bool}

/-- The keys of the 64 KB sub-block. -/
theorem decodesTo_apl64kb (hpattern : pattern.toNat = write.toNat * 2 ^ 32 + 0x1000) (k : BitVec 8) :
    Machine.DecodesTo (pattern + (k.setWidth 36 <<< 2))
      (fun t => if write then .cfgWrApl64kb k t.secure t.word else .cfgRdApl64kb k t.secure) :=
  decodesTo_of_subBlock k (base := 0x1000#32) hpattern (by decide) (by decide) (by decide) (by decide)
    fun _ hwrite hoff => hwrite ▸ entryAccess_apl64kb hoff

/-- The keys of the 32-byte sub-block. -/
theorem decodesTo_apl32b (hpattern : pattern.toNat = write.toNat * 2 ^ 32 + 0x1400) (k : BitVec 7) :
    Machine.DecodesTo (pattern + (k.setWidth 36 <<< 2))
      (fun t => if write then .cfgWrApl32b k t.secure t.word else .cfgRdApl32b k t.secure) :=
  decodesTo_of_subBlock k (base := 0x1400#32) hpattern (by decide) (by decide) (by decide) (by decide)
    fun _ hwrite hoff => hwrite ▸ entryAccess_apl32b hoff

/-- The keys of the 1 MB sub-block. -/
theorem decodesTo_apl1mb (hpattern : pattern.toNat = write.toNat * 2 ^ 32 + 0x1600) (k : BitVec 4) :
    Machine.DecodesTo (pattern + (k.setWidth 36 <<< 2))
      (fun t => if write then .cfgWrApl1mb k t.secure t.word else .cfgRdApl1mb k t.secure) :=
  decodesTo_of_subBlock k (base := 0x1600#32) hpattern (by decide) (by decide) (by decide) (by decide)
    fun _ hwrite hoff => hwrite ▸ entryAccess_apl1mb hoff

/-- The key of the 512 MB entry. -/
theorem decodesTo_apl512mb (hpattern : pattern.toNat = write.toNat * 2 ^ 32 + 0x1640) :
    Machine.DecodesTo pattern
      (fun t => if write then .cfgWrApl512mb t.secure t.word else .cfgRdApl512mb t.secure) :=
  decodesTo_of_entryAccess (off := 0x1640#32) hpattern (by decide) (by decide) (by decide)
    fun _ hwrite hoff => hwrite ▸ entryAccess_apl512mb hoff

end Key

end Sys2Proof

namespace Sys2Proof.Machine

open Sys2Proof

/-- A key whose operation is `ram_read(k)` (rule R190). -/
theorem readsEntry_of_decodesTo {key : BitVec 36} {op : Bool → Instr} {k : Nat}
    (hdecode : DecodesTo key fun t => op t.secure) (hexec : ∀ s, exec (op true) s = cfgRamRead k true s) :
    ReadsEntry key op k :=
  ⟨hdecode, fun s hk => readsEntry_of_cfgRamRead hk (hexec s)⟩

/-- A key whose operation is `ram_write(k, data)` (rule R191). -/
theorem writesEntry_of_decodesTo {key : BitVec 36} {op : Bool → Word → Instr} {k : Nat}
    (hdecode : DecodesTo key fun t => op t.secure t.word)
    (hexec : ∀ s data, exec (op true data) s = cfgRamWrite k true data s) : WritesEntry key op k :=
  ⟨hdecode, fun s data hk hram => storesEntry_of_cfgRamWrite hk hram (hexec s data)⟩

/-- Settles O30, sub-block by sub-block: each read is `ram_read` of its entry. -/
theorem permissionRamReads : Obligations.PermissionRamReads :=
  ⟨fun k => readsEntry_of_decodesTo (decodesTo_apl64kb (write := false) rfl k) fun _ => rfl,
    fun k => readsEntry_of_decodesTo (decodesTo_apl32b (write := false) rfl k) fun _ => rfl,
    fun k => readsEntry_of_decodesTo (decodesTo_apl1mb (write := false) rfl k) fun _ => rfl,
    readsEntry_of_decodesTo (decodesTo_apl512mb (write := false) rfl) fun _ => rfl⟩

/-- Settles O31, sub-block by sub-block: each write is `ram_write` of its entry. -/
theorem permissionRamWrites : Obligations.PermissionRamWrites :=
  ⟨fun k => writesEntry_of_decodesTo (decodesTo_apl64kb (write := true) rfl k) fun _ _ => rfl,
    fun k => writesEntry_of_decodesTo (decodesTo_apl32b (write := true) rfl k) fun _ _ => rfl,
    fun k => writesEntry_of_decodesTo (decodesTo_apl1mb (write := true) rfl k) fun _ _ => rfl,
    writesEntry_of_decodesTo (decodesTo_apl512mb (write := true) rfl) fun _ _ => rfl⟩

end Sys2Proof.Machine
end

section
/-! PROOFS. The permission check in the rules' own terms, and the aperture access assembled from it: what it forwards,
what it poisons, what it never changes, and the first fault it keeps. -/

namespace Sys2Proof.Machine

open Sys2Proof

/-! ### The permission check (rule R203) -/

section Check

variable {s : State} {e : Word} {id : BitVec 10} {w secure : Bool}

/-- The check's test of an entry's parity is that of rule R204. -/
theorem entryFails_iff (s : State) (e : Word) :
    (ctrlAperParityEn s.ctrl && !aplParityOk e) = true ↔ s.entryFails e := by
  simp only [ctrlAperParityEn, Bool.and_eq_true, Bool.not_eq_true']

/-- An entry that fails its parity ends the check (rule R204). -/
theorem checkPermission_of_entryFails (h : s.entryFails e) :
    s.checkPermission e id w secure = ⟨false, s.isr ||| 0x80#8⟩ :=
  if_pos ((entryFails_iff s e).mpr h)

/-- Past the entry's parity the check is the loop over the slots (rule R203). -/
theorem checkPermission_of_not_entryFails (h : ¬s.entryFails e) :
    s.checkPermission e id w secure = scanSlots (s.slotVerdict e id w secure) (List.finRange 20) false s.isr :=
  if_neg fun hf => h ((entryFails_iff s e).mp hf)

/-- The check's answer (rules R204, R209). -/
theorem checkPermission_ok_iff : (s.checkPermission e id w secure).ok = true ↔ s.authorized e id w secure := by
  by_cases hf : s.entryFails e
  · rw [checkPermission_of_entryFails hf]
    exact iff_of_false Bool.false_ne_true fun hauth => hauth.1 hf
  · rw [checkPermission_of_not_entryFails hf, scanSlots_ok_iff, State.authorized, and_iff_right hf]
    simp only [List.mem_finRange, true_and, slotVerdict_authorizes_iff]

/-- A bit of ISR that is set under a condition (rule R77). -/
theorem bitsIf_twoPow_getLsbD_iff {k : Nat} (hk : k < 8) (p : Prop) [Decidable p] (n : Nat) :
    (bitsIf (BitVec.twoPow 8 k) p).getLsbD n = true ↔ p ∧ n = k := by
  by_cases hp : p
  · simp [bitsIf, hp, BitVec.getLsbD_twoPow, hk, eq_comm]
  · simp [bitsIf, hp]

/-- Past the entry's parity a bit of ISR after the check was set before, is set by a slot the loop reaches (rules R205,
R207, R208), or is MID_MISS and no slot matched (rule R210). -/
theorem isrAfterCheck_getLsbD_iff (hf : ¬s.entryFails e) (n : Nat) :
    (s.isrAfterCheck e id w secure).getLsbD n = true ↔
      s.isr.getLsbD n = true ∨
        (∃ i, s.slotReached e id w secure i ∧ (s.slotVerdict e id w secure i).isr.getLsbD n = true) ∨
        (n = 1 ∧ ∀ i, ¬s.slotHits e id i) := by
  rw [State.isrAfterCheck, if_neg hf, show 0x08#8 = BitVec.twoPow 8 3 from rfl,
    show 0x04#8 = BitVec.twoPow 8 2 from rfl, show 0x40#8 = BitVec.twoPow 8 6 from rfl,
    show 0x02#8 = BitVec.twoPow 8 1 from rfl]
  simp only [BitVec.getLsbD_or, Bool.or_eq_true, bitsIf_twoPow_getLsbD_iff, Nat.reduceLT, or_assoc,
    slotVerdict_isr_bit, slotVerdict_badParity_iff, slotVerdict_readOnly_iff, slotVerdict_trustZone_iff,
    and_or_left, exists_or, ← exists_and_right, and_assoc, and_comm (a := n = 1)]

/-- ISR after the check is what rules R203 to R210 say: MID_MISS by the whole loop, every other bit by a slot that the
loop reaches. -/
theorem checkPermission_isr (s : State) (e : Word) (id : BitVec 10) (w secure : Bool) :
    (s.checkPermission e id w secure).isr = s.isrAfterCheck e id w secure := by
  by_cases hf : s.entryFails e
  · rw [checkPermission_of_entryFails hf, State.isrAfterCheck, if_pos hf]
  · rw [checkPermission_of_not_entryFails hf]
    refine BitVec.eq_of_getLsbD_eq fun n _ => Bool.eq_iff_iff.mpr ?_
    rw [isrAfterCheck_getLsbD_iff hf]
    by_cases hn : n = 1
    · subst hn
      have noSlot : ∀ i, (s.slotVerdict e id w secure i).isr.getLsbD 1 = false := fun i => by
        cases s.slotVerdict e id w secure i <;> rfl
      simp only [scanSlots_miss_bit, noSlot, List.mem_finRange, forall_const, ← Bool.not_eq_true,
        slotVerdict_matched_iff, Bool.false_eq_true, true_and, and_false, exists_false, false_or]
    · rw [scanSlots_reached_bit _ _ (List.pairwise_lt_finRange 20) _ _ hn]
      simp only [List.mem_finRange, true_and, forall_const, ne_eq, slotVerdict_authorizes_iff, hn, false_and, or_false]

end Check

/-- Settles O36: the entry's parity ends the check, and past it the loop authorizes by some slot. -/
theorem checkAuthorizesIffSomeSlotAdmits : Obligations.CheckAuthorizesIffSomeSlotAdmits :=
  fun _ _ _ _ _ => checkPermission_ok_iff

/-- Settles O37: APER_PARITY by the entry's parity, and past it the loop bit by bit. -/
theorem checkSetsExactlyTheNamedBits : Obligations.CheckSetsExactlyTheNamedBits :=
  checkPermission_isr

/-! ### Slots whose register fails its parity (rule R205) -/

/-- The verdict on a slot whose register fails its parity takes nothing from the register. -/
theorem slotVerdict_of_slotFails {s : State} {i : Fin 20} (h : s.slotFails i) (e : Word) (id : BitVec 10)
    (w secure : Bool) :
    s.slotVerdict e id w secure i = if e.getLsbD i = false then .notEnabled else .badParity := by
  rw [slotVerdict_eq, if_pos h]

/-- The verdict takes no Master-ID register but the slot's own. -/
theorem slotVerdict_congr_mid {s : State} {mids : Vector Word 20} {i : Fin 20} (h : mids[i] = s.mid[i]) (e : Word)
    (id : BitVec 10) (w secure : Bool) :
    ({ s with mid := mids } : State).slotVerdict e id w secure i = s.slotVerdict e id w secure i := by
  simp only [State.slotVerdict, h]

/-- Settles O47: the verdicts agree at every slot, and the check takes no more from the table. -/
theorem parityFailedSlotIsOpaque : Obligations.ParityFailedSlotIsOpaque := by
  intro s mids e id w secure h
  have verdicts : ({ s with mid := mids } : State).slotVerdict e id w secure = s.slotVerdict e id w secure := by
    funext i
    rcases h i with hsame | ⟨hfails, hfails'⟩
    · exact slotVerdict_congr_mid hsame e id w secure
    · rw [slotVerdict_of_slotFails hfails, slotVerdict_of_slotFails hfails']
  simp only [State.checkPermission, verdicts]

/-! ### The aperture access, whole (rule R200) -/

/-- An admitted access through a disabled window (rule R201). -/
theorem apertureAccess_disabled {a : Aperture} {off : Word} {size : Nat} {s : State}
    (hf : apertureFits (s.cfg.aperture a) off size = true) (hw : s.winEn.get a = false) (x : Access) (m : Word)
    (secure : Bool) : apertureAccess a off size x m secure s = .next { s with answer := .notDecoded } := by
  simp only [apertureAccess, apertureAdmitted, hf, hw, Bool.not_true, Bool.not_false, Bool.false_eq_true, if_false,
    if_true]

/-- An admitted access through an enabled window whose address selects an entry the permission RAM has. -/
theorem apertureAccess_selected {a : Aperture} {off : Word} {size : Nat} {s : State}
    (hf : apertureFits (s.cfg.aperture a) off size = true) (hw : s.winEn.get a = true)
    (hk : aplIndex (s.cfg.aperture a) (s.addressOf a off) < s.cfg.nrApl) (x : Access) (m : Word) (secure : Bool) :
    apertureAccess a off size x m secure s =
      .next (s.checkedAccess (s.entryFor a off) (s.addressOf a off) size x m secure) := by
  have hword : s.ramWord (aplIndex (s.cfg.aperture a) (absoluteAddress (s.cfg.aperture a) off)) =
      some (s.entryFor a off) := if_pos hk
  simp only [apertureAccess, apertureAdmitted, hf, hw, hword, Bool.not_true, Bool.false_eq_true, if_false]
  rfl

/-- Settles O42: the access is admitted, and the window's enable is looked at next. -/
theorem disabledWindowIsNotDecoded : Obligations.DisabledWindowIsNotDecoded := by
  intro s a off size x m secure hf hw
  rw [exec_ap, apertureAccess_disabled hf hw]

section CheckedAccess

variable {s : State} {e addr : Word} {size : Nat} {x : Access} {m : Word} {secure : Bool}

/-- The checked access of an authorized transaction (rule R211). -/
theorem checkedAccess_of_authorized (h : s.authorized e (m.extractLsb' 0 10) x.isWrite secure) :
    s.checkedAccess e addr size x m secure =
      { s with
        isr := s.isrAfterCheck e (m.extractLsb' 0 10) x.isWrite secure
        downstream := s.downstream ++ [⟨addr, size, x, m, secure⟩]
        draws := s.draws + 1
        answer := s.downAnswer addr size x } := by
  simp only [checkedAccess_eq, if_pos (checkPermission_ok_iff.mpr h), checkPermission_isr]

/-- The checked access of a rejected transaction (rules R212 to R214). -/
theorem checkedAccess_of_rejected (h : ¬s.authorized e (m.extractLsb' 0 10) x.isWrite secure) :
    s.checkedAccess e addr size x m secure =
      { s with
        isr :=
          if s.latchFree then s.isrAfterCheck e (m.extractLsb' 0 10) x.isWrite secure ||| 0x20#8
          else s.isrAfterCheck e (m.extractLsb' 0 10) x.isWrite secure
        errStatus1 := if s.latchFree then addr.extractLsb' 12 20 else s.errStatus1
        errStatus2 := if s.latchFree then m.extractLsb' 0 10 else s.errStatus2
        downstream := s.downstream ++ [⟨s.poison ++ addr.extractLsb' 0 12, size, x, m, secure⟩]
        draws := s.draws + 1
        answer := s.downAnswer (s.poison ++ addr.extractLsb' 0 12) size x } := by
  simp only [checkedAccess_eq, if_neg (fun hok => h (checkPermission_ok_iff.mp hok)), checkPermission_isr]

/-- Two master ids that agree in bits 9:0 give checked accesses that differ in the record alone (rule R216). -/
theorem checkedAccess_congr_masterId {m' : Word} (h : m.extractLsb' 0 10 = m'.extractLsb' 0 10) :
    s.checkedAccess e addr size x m' secure =
      { s.checkedAccess e addr size x m secure with
        downstream := (s.checkedAccess e addr size x m' secure).downstream } := by
  simp only [checkedAccess_eq, h]
  split <;> rfl

/-- While a blocking fault is pending the checked access leaves the error pair (rule R212). -/
theorem checkedAccess_errStatus_of_pending (h : ¬s.latchFree) :
    (s.checkedAccess e addr size x m secure).errStatus1 = s.errStatus1 ∧
      (s.checkedAccess e addr size x m secure).errStatus2 = s.errStatus2 := by
  simp only [checkedAccess_eq, if_neg h, apply_ite State.errStatus1, apply_ite State.errStatus2, ite_self, and_self]

end CheckedAccess

/-- Settles O41: the checked access of the entry, by whether the check authorizes. -/
theorem apertureAccessForwardsOrPoisons : Obligations.ApertureAccessForwardsOrPoisons := by
  intro s a off size x m secure hcfg hf hw
  rw [exec_ap, apertureAccess_enabled hcfg hf hw]
  dsimp only
  by_cases h : s.authorized (s.entryFor a off) (m.extractLsb' 0 10) x.isWrite secure
  · rw [if_pos h, checkedAccess_of_authorized h]
  · rw [if_neg h, checkedAccess_of_rejected h]

/-! ### An access authorized with no fault below its slot (rules R209, R211) -/

/-- The loop reaches no slot past one that authorizes. -/
theorem le_of_slotReached {s : State} {e : Word} {id : BitVec 10} {w secure : Bool} {i j : Fin 20}
    (hadmits : s.slotAdmits e id w secure i) (hreached : s.slotReached e id w secure j) : j ≤ i :=
  not_lt.mp fun hij => hreached i hij hadmits

/-- A slot that is not enabled, or passes parity and does not match, sets no bit (rules R203, R206). -/
theorem slotVerdict_isr_of_skipped {s : State} {e : Word} {id : BitVec 10} {i : Fin 20}
    (h : e.getLsbD i = false ∨ (¬s.slotFails i ∧ ¬s.slotMatches id i)) (w secure : Bool) :
    (s.slotVerdict e id w secure i).isr = 0#8 := by
  rw [slotVerdict_eq]
  by_cases hoff : e.getLsbD i = false
  · rw [if_pos hoff]
    rfl
  · obtain ⟨hpasses, hdiffers⟩ := h.resolve_left hoff
    rw [if_neg hoff, if_neg hpasses, if_pos hdiffers]
    rfl

/-- The check leaves ISR when a slot authorizes and each lower one is not enabled, or passes parity and does not
match. -/
theorem isrAfterCheck_of_clean {s : State} {e : Word} {id : BitVec 10} {w secure : Bool} {i : Fin 20}
    (hf : ¬s.entryFails e) (hadmits : s.slotAdmits e id w secure i)
    (hbelow : ∀ j < i, e.getLsbD j = false ∨ (¬s.slotFails j ∧ ¬s.slotMatches id j)) :
    s.isrAfterCheck e id w secure = s.isr := by
  have silent : ∀ j, s.slotReached e id w secure j → (s.slotVerdict e id w secure j).isr = 0#8 := by
    intro j hreached
    rcases (le_of_slotReached hadmits hreached).lt_or_eq with hlt | rfl
    · exact slotVerdict_isr_of_skipped (hbelow j hlt) w secure
    · rw [(slotVerdict_authorizes_iff ..).mpr hadmits]
      rfl
  refine BitVec.eq_of_getLsbD_eq fun n _ => Bool.eq_iff_iff.mpr ?_
  rw [isrAfterCheck_getLsbD_iff hf]
  refine ⟨?_, Or.inl⟩
  rintro (hset | ⟨j, hreached, hbit⟩ | ⟨-, hmiss⟩)
  · exact hset
  · simp [silent j hreached] at hbit
  · exact absurd hadmits.1 (hmiss i)

/-- Settles O43: the slot authorizes, and no slot up to it sets a bit. -/
theorem cleanlyAuthorizedAccessLeavesIsr : Obligations.CleanlyAuthorizedAccessLeavesIsr := by
  intro s a off size x m secure i hcfg hfits hw hf hadmits hbelow
  rw [exec_ap, apertureAccess_enabled hcfg hfits hw, checkedAccess_of_authorized ⟨hf, i, hadmits⟩,
    isrAfterCheck_of_clean hf hadmits hbelow]

/-! ### Rejected accesses (rules R204, R208, R210) -/

/-- A rejected access through an enabled window: the check's bits with APER_PERM when the latch was free, and one
access to the poison address (rules R212 to R214). -/
theorem exec_ap_rejected {s t : State} {a : Aperture} {off : Word} {size : Nat} {x : Access} {m : Word}
    {secure : Bool} (hw : s.winEn.get a = true)
    (hrejects : ¬s.authorized (s.entryFor a off) (m.extractLsb' 0 10) x.isWrite secure)
    (h : exec (.ap a off size x m secure) s = .next t) :
    t.isr = s.isrAfterCheck (s.entryFor a off) (m.extractLsb' 0 10) x.isWrite secure |||
        (if s.latchFree then 0x20#8 else 0#8) ∧
      t.downstream = s.downstream ++
        [⟨s.poison ++ (s.addressOf a off).extractLsb' 0 12, size, x, m, secure⟩] := by
  rw [exec_ap_enabled hw h, checkedAccess_of_rejected hrejects]
  by_cases hfree : s.latchFree
  · simp only [if_pos hfree, and_self]
  · simp only [if_neg hfree, BitVec.or_zero, and_self]

/-- Settles O44: the check ends with APER_PARITY, before any slot. -/
theorem badEntryParityRejects : Obligations.BadEntryParityRejects := by
  intro s t a off size x m secure _ _ hw hf h
  have hisr : s.isrAfterCheck (s.entryFor a off) (m.extractLsb' 0 10) x.isWrite secure = s.isr ||| 0x80#8 := if_pos hf
  rw [← hisr]
  exact exec_ap_rejected hw (fun hauth => hauth.1 hf) h

/-- No slot authorizes a non-secure access under an entry with TZ = 0 (rule R208). -/
theorem not_slotAdmits_of_trustZone {s : State} {e : Word} {id : BitVec 10} {w : Bool} (htz : e.getLsbD 27 = false)
    (i : Fin 20) : ¬s.slotAdmits e id w false i := by
  rintro ⟨-, -, hsecure | htz'⟩
  · cases hsecure
  · exact Bool.false_ne_true (htz.symm.trans htz')

/-- Settles O45: no slot authorizes, so the loop reaches every slot, the one that sets APER_TZ among them. -/
theorem nonSecureNeedsTrustZoneBit : Obligations.NonSecureNeedsTrustZoneBit := by
  intro s t a off size x m _ _ hw htz h
  have never : ∀ i, ¬s.slotAdmits (s.entryFor a off) (m.extractLsb' 0 10) x.isWrite false i :=
    not_slotAdmits_of_trustZone htz
  obtain ⟨hisr, hdown⟩ := exec_ap_rejected hw (fun ⟨_, i, hadmits⟩ => never i hadmits) h
  refine ⟨hdown, fun hf ⟨i, hhits, hwritable⟩ => ?_⟩
  have hset : (s.isrAfterCheck (s.entryFor a off) (m.extractLsb' 0 10) x.isWrite false).getLsbD 6 = true := by
    refine (isrAfterCheck_getLsbD_iff hf 6).mpr (.inr (.inl ⟨i, fun j _ => never j, ?_⟩))
    rw [(slotVerdict_trustZone_iff ..).mpr ⟨hhits, hwritable, rfl, htz⟩]
    rfl
  rw [hisr, BitVec.getLsbD_or, hset, Bool.true_or]

/-- An entry with an empty mask enables no slot (rules R83, R210). -/
theorem getLsbD_of_emptyMask {e : Word} (h : e.extractLsb' 0 20 = 0#20) (i : Fin 20) : e.getLsbD i = false := by
  have hbit := congrArg (fun v => v.getLsbD i) h
  simpa using hbit

/-- The check of an entry that enables no slot sets MID_MISS alone (rule R210). -/
theorem isrAfterCheck_of_noneEnabled {s : State} {e : Word} {id : BitVec 10} {w secure : Bool}
    (hf : ¬s.entryFails e) (hnone : ∀ i : Fin 20, e.getLsbD i = false) :
    s.isrAfterCheck e id w secure = s.isr ||| 0x02#8 := by
  have noHit : ∀ i, ¬s.slotHits e id i := fun i hhits => Bool.false_ne_true ((hnone i).symm.trans hhits.1)
  simp only [State.isrAfterCheck, if_neg hf, bitsIf, hnone, noHit, Bool.false_eq_true, false_and, and_false,
    exists_false, if_false, not_false_eq_true, implies_true, if_true, BitVec.or_zero]

/-- Settles O46: with no slot enabled none authorizes and none matches. -/
theorem emptyMaskMissesEveryMaster : Obligations.EmptyMaskMissesEveryMaster := by
  intro s t a off size x m secure _ _ hw hmask hf h
  have hnone := getLsbD_of_emptyMask hmask
  rw [← isrAfterCheck_of_noneEnabled hf hnone]
  refine exec_ap_rejected hw ?_ h
  rintro ⟨-, i, ⟨hen, -⟩, -⟩
  exact Bool.false_ne_true ((hnone i).symm.trans hen)

/-! ### The master id (rule R216) -/

/-- Settles O48: the admission, the enable and the entry do not take the id, and the check and the latch take its bits
9:0. -/
theorem masterIdHighBitsDoNotMatter : Obligations.MasterIdHighBitsDoNotMatter := by
  intro s t a off size x m m' secure hid h
  rw [exec_ap] at h
  simp only [exec_ap]
  obtain ⟨hf, ⟨hoff, rfl⟩ | ⟨hw, hk, rfl⟩⟩ := apertureAccess_next h
  · exact ⟨_, apertureAccess_disabled hf hoff x m' secure, rfl, rfl⟩
  · refine ⟨_, apertureAccess_selected hf hw hk x m' secure, checkedAccess_congr_masterId hid, ?_⟩
    simp only [State.checkedAccess_downstream, List.map_append, List.map_cons, hid]

/-! ### What an aperture access never changes (rule R219) -/

/-- No bit is cleared where every bit is kept. -/
theorem and_not_eq_zero_of_and_eq {f g : BitVec 8} (h : f &&& g = f) : f &&& ~~~g = 0#8 := by
  rw [← h, BitVec.and_assoc, BitVec.and_not_self]
  exact BitVec.and_zero

/-- Settles O49: a disabled window changes the answer alone, and the checked access keeps the rest. -/
theorem apertureAccessFrame : Obligations.ApertureAccessFrame := by
  intro s t a off size x m secure h
  rw [exec_ap] at h
  obtain ⟨-, ⟨-, rfl⟩ | ⟨-, -, rfl⟩⟩ := apertureAccess_next h
  · simp
  · simp [and_not_eq_zero_of_and_eq (checkedAccess_isr_mono ..)]

/-! ### The first fault (rules R212, R247, R250) -/

section FirstFault

variable {i : Instr} {s t : State}

/-- While a blocking fault is pending no operation but reset writes the error pair. -/
theorem Effect.errStatus_of_pending (h : Effect i s t) (hi : i ≠ .reset) (hpending : ¬s.latchFree) :
    t.errStatus1 = s.errStatus1 ∧ t.errStatus2 = s.errStatus2 := by
  cases h with
  | access => exact checkedAccess_errStatus_of_pending hpending
  | reset => exact absurd rfl hi
  | _ => exact ⟨rfl, rfl⟩

/-- A blocking fault stays pending in every operation but a secure ISR write and reset. -/
theorem Effect.pending_kept (h : Effect i s t) (hi : i ≠ .reset) (hisr : ∀ d, i ≠ .cfgWrIsr true d)
    (hpending : ¬s.latchFree) : ¬t.latchFree := by
  obtain ⟨n, hn⟩ := ne_zero_iff_getLsbD.mp hpending
  obtain ⟨hset, hmask⟩ : s.isr.getLsbD n = true ∧ s.cfg.latchBlockMask.getLsbD n = true := by simpa using hn
  have kept : t.isr.getLsbD n = true := by
    by_contra hlost
    obtain ⟨d, hd⟩ := h.isr_loses hi hset (Bool.eq_false_of_not_eq_true hlost)
    exact hisr d hd
  refine ne_zero_iff_getLsbD.mpr ⟨n, ?_⟩
  rw [h.cfg_inbox.1, BitVec.getLsbD_and, kept, hmask, Bool.and_self]

end FirstFault

/-- Settles O53: the pair by the closed latch, the pending bit by what clears ISR. -/
theorem firstFaultIsKept : Obligations.FirstFaultIsKept := by
  intro i s t hpending hisr hi h
  have e := exec_next h
  obtain ⟨haddr, hid⟩ := e.errStatus_of_pending hi hpending
  exact ⟨haddr, hid, e.pending_kept hi hisr hpending⟩

end Sys2Proof.Machine
end

section
/-! PROOFS. What a rejection records, how ISR bits are kept and acknowledged, and what a non-secure delivery can change
or learn. -/

namespace Sys2Proof.Machine

open Sys2Proof

/-! ### What a rejection records (rules R203, R241) -/

/-- The check takes ISR only to add its bits to it: the added bits are those of the check from ISR = 0. -/
theorem isrAfterCheck_eq_or (s : State) (e : Word) (id : BitVec 10) (w secure : Bool) :
    s.isrAfterCheck e id w secure = s.isr ||| ({ s with isr := 0#8 } : State).isrAfterCheck e id w secure := by
  by_cases hf : s.entryFails e
  · simp only [State.isrAfterCheck, if_pos hf, BitVec.zero_or]
  · simp only [State.isrAfterCheck, if_neg hf, BitVec.zero_or, BitVec.or_assoc]

/-- The codes 1, 2, 3, 6 and 7. -/
theorem rejectionCauses_getLsbD {n : Nat} (h : n ∈ [1, 2, 3, 6, 7]) : (0xCE#8).getLsbD n = true := by
  revert n
  decide

/-- A slot that matches and does not authorize sets MID_RO or APER_TZ (rules R207, R208). -/
theorem slotVerdict_of_hit {s : State} {e : Word} {id : BitVec 10} {w secure : Bool} {i : Fin 20}
    (hhits : s.slotHits e id i) (hrejects : ¬s.slotAdmits e id w secure i) :
    s.slotVerdict e id w secure i = .readOnly ∨ s.slotVerdict e id w secure i = .trustZone := by
  rw [slotVerdict_readOnly_iff, slotVerdict_trustZone_iff]
  by_cases hro : s.slotReadOnly w i
  · exact .inl ⟨hhits, hro⟩
  · refine .inr ⟨hhits, hro, ?_⟩
    simpa using fun hzone => hrejects ⟨hhits, hro, hzone⟩

/-- A check that does not authorize leaves one of the codes 1, 2, 3, 6 and 7 set: APER_PARITY for the entry, else what
a matching slot sets, else MID_MISS. -/
theorem isrAfterCheck_of_rejected {s : State} {e : Word} {id : BitVec 10} {w secure : Bool}
    (h : ¬s.authorized e id w secure) :
    ∃ n ∈ [1, 2, 3, 6, 7], (s.isrAfterCheck e id w secure).getLsbD n = true := by
  by_cases hf : s.entryFails e
  · exact ⟨7, by simp, by rw [State.isrAfterCheck, if_pos hf]; simp⟩
  · have never : ∀ i, ¬s.slotAdmits e id w secure i := fun i hadmits => h ⟨hf, i, hadmits⟩
    simp only [isrAfterCheck_getLsbD_iff hf]
    by_cases hhit : ∃ i, s.slotHits e id i
    · obtain ⟨i, hhits⟩ := hhit
      rcases slotVerdict_of_hit hhits (never i) with hv | hv
      · exact ⟨2, by simp, .inr (.inl ⟨i, fun j _ => never j, by rw [hv]; rfl⟩)⟩
      · exact ⟨6, by simp, .inr (.inl ⟨i, fun j _ => never j, by rw [hv]; rfl⟩)⟩
    · exact ⟨1, by simp, .inr (.inr ⟨rfl, not_exists.mp hhit⟩)⟩

/-- Settles O38: neither the authorization nor the added bits take ISR, and a rejection sets a cause. -/
theorem rejectionRecordsACause : Obligations.RejectionRecordsACause := by
  intro s e id w secure added
  have hok : added.ok = true ↔ s.authorized e id w secure := checkPermission_ok_iff
  have hisr : added.isr = ({ s with isr := 0#8 } : State).isrAfterCheck e id w secure := checkPermission_isr ..
  refine ⟨Bool.eq_iff_iff.mpr (checkPermission_ok_iff.trans hok.symm), ?_, fun hrejects => ?_⟩
  · rw [checkPermission_isr, isrAfterCheck_eq_or, hisr]
  · have hunauthorized : ¬s.authorized e id w secure := fun hauth =>
      Bool.false_ne_true (hrejects.symm.trans (hok.mpr hauth))
    obtain ⟨n, hn, hbit⟩ := isrAfterCheck_of_rejected (s := { s with isr := 0#8 }) hunauthorized
    refine ne_zero_iff_getLsbD.mpr ⟨n, ?_⟩
    rw [BitVec.getLsbD_and, hisr, hbit, rejectionCauses_getLsbD hn, Bool.and_self]

/-! ### The bits of ISR (rules R111, R242) -/

/-- Adding a bit that is set changes nothing. -/
theorem or_twoPow_of_getLsbD {w k : Nat} {v : BitVec w} (h : v.getLsbD k = true) : v ||| BitVec.twoPow w k = v := by
  refine BitVec.eq_of_getLsbD_eq fun n _ => ?_
  by_cases hn : k = n
  · simp [← hn, h]
  · simp [BitVec.getLsbD_twoPow, hn]

/-- A secure ISR write (rule R111). -/
theorem exec_cfgWrIsr {s t : State} {data : Word} (h : exec (.cfgWrIsr true data) s = .next t) :
    t = { s with isr := s.isr &&& ~~~(data.extractLsb' 0 8 &&& 0xEF#8), answer := .write .ok } := by
  obtain ⟨⟨-, isrWrite⟩, -, -⟩ := interruptRegisterWrites
  cases (isrWrite s data).symm.trans h
  rfl

/-- A bit that the acknowledgement clears is a bit of its data (rule R111). -/
theorem getLsbD_of_acknowledged {f : BitVec 8} {data : Word} {n : Nat} (hset : f.getLsbD n = true)
    (hcleared : (f &&& ~~~(data.extractLsb' 0 8 &&& 0xEF#8)).getLsbD n = false) : data.getLsbD n = true := by
  have hn : n < 8 := BitVec.lt_of_getLsbD hset
  by_contra hdata
  simp [hset, hn, hdata] at hcleared

/-- Settles O52: what clears a bit is reset or a secure ISR write, and such a write clears its data's bits alone. -/
theorem isrBitsAreSticky : Obligations.IsrBitsAreSticky := by
  refine ⟨fun i s t n h hset hcleared => ?_, fun s b hset => ?_⟩
  · by_cases hi : i = .reset
    · exact .inl hi
    · obtain ⟨data, rfl⟩ := (exec_next h).isr_loses hi hset hcleared
      cases exec_cfgWrIsr h
      exact .inr ⟨data, rfl, getLsbD_of_acknowledged hset hcleared⟩
  · rw [State.setIsr, Cause.bit, ← BitVec.twoPow_eq, or_twoPow_of_getLsbD hset]

/-! ### The acknowledgement (rule R249) -/

/-- A rejected access while no blocking fault is pending is latched (rules R202, R212). -/
theorem exec_ap_latches {s t : State} {a : Aperture} {off : Word} {size : Nat} {x : Access} {m : Word}
    {secure : Bool} (h : exec (.ap a off size x m secure) s = .next t) (hfree : s.latchFree)
    (hw : s.winEn.get a = true)
    (hrejects : ¬s.authorized (s.entryFor a off) (m.extractLsb' 0 10) x.isWrite secure) :
    t.isr.getLsbD 5 = true ∧ t.errStatus1 = (s.addressOf a off).extractLsb' 12 20 ∧
      t.errStatus2 = m.extractLsb' 0 10 := by
  obtain ⟨hisr, -⟩ := exec_ap_rejected hw hrejects h
  refine ⟨by rw [hisr, if_pos hfree]; simp, ?_⟩
  rw [exec_ap_enabled hw h, checkedAccess_of_rejected hrejects]
  exact ⟨if_pos hfree, if_pos hfree⟩

/-- Settles O54: the acknowledgement writes ISR alone, and the latch is free after it when no blocking bit remains. -/
theorem acknowledgeRearmsTheLatch : Obligations.AcknowledgeRearmsTheLatch := by
  intro s t u data a off size access masterId secure hack
  cases exec_cfgWrIsr hack
  refine ⟨rfl, rfl, fun hfree _ _ hw hrejects haccess => ?_⟩
  have latched := exec_ap_latches haccess hfree hw hrejects
  exact latched

/-! ### Non-secure deliveries (rules R100, R219, R252) -/

/-- A Master-ID write is a configuration write of a defined register. -/
theorem kind_midWr (i : Fin 20) (secure : Bool) (d : Word) : (Instr.midWr i secure d).kind = .defined true secure := by
  fin_cases i <;> rfl

/-- The delivery that stores an entry of the permission RAM is secure (rules R100, R191). -/
theorem WritesRam.secure {i : Instr} {k : Nat} {d : Word} (h : WritesRam i k d) : i.kind.secure = some true := by
  cases h <;> rfl

/-- A non-secure delivery has the effect of a dropped access, of a hole or of an aperture access, and none of these
writes a protection register, a table or a window enable. -/
theorem Effect.protection_of_nonSecure {i : Instr} {s t : State} (h : Effect i s t)
    (hi : i.kind.secure = some false) :
    t.ctrl = s.ctrl ∧ t.poison = s.poison ∧ t.imr = s.imr ∧ t.eco = s.eco ∧ t.ramAdj = s.ramAdj ∧ t.mid = s.mid ∧
      t.ram = s.ram ∧ t.winEn = s.winEn := by
  cases h with
  | answers | hole => exact ⟨rfl, rfl, rfl, rfl, rfl, rfl, rfl, rfl⟩
  | access => simp
  | mid _ n d => rw [kind_midWr] at hi; cases hi
  | ram _ _ _ _ _ hw => cases hw.secure.symm.trans hi
  | ctrl | poison | isr | ien | ids | eco | ramAdj | reset => cases hi

/-- Settles O55, by the effects of a non-secure delivery. -/
theorem nonSecureDeliveryChangesNoProtection : Obligations.NonSecureDeliveryChangesNoProtection :=
  fun _ _ _ hi h => (exec_next h).protection_of_nonSecure hi

/-- The answer to a non-secure configuration access of a kind: OK, and 0 to a read (rules R100, R141 to R144). -/
def nonSecureAnswer : OpKind → Answer
  | .defined write _ | .hole write _ | .outOfRange write _ => if write then .write .ok else .read 0#64 .ok
  | .aperture _ | .reset => .none

/-- The answer to a non-secure configuration access is that of its kind. -/
theorem ConfigOutcome.answer_of_nonSecure {s t : State} {k : OpKind} {r : Result} (h : ConfigOutcome s k r)
    (hk : k.secure = some false) (hr : r = .next t) : t.answer = nonSecureAnswer k := by
  cases h with
  | read b v h | write b store h =>
    obtain rfl : b = false := by rcases h with rfl | rfl <;> simpa [OpKind.secure] using hk
    cases hr
    rcases h with rfl | rfl <;> rfl
  | holeRead | holeWrite =>
    cases hr
    rfl

/-- Settles O56: in either state the answer is that of the access's kind. -/
theorem nonSecureConfigAnswerIsConstant : Obligations.NonSecureConfigAnswerIsConstant := by
  intro i s s' t t' hsecure haperture h h'
  have hreset : i ≠ .reset := by
    rintro rfl
    cases hsecure
  have answer {s t : State} (h : exec i s = .next t) : t.answer = nonSecureAnswer i.kind :=
    (exec_config haperture hreset s).answer_of_nonSecure hsecure h
  exact (answer h).trans (answer h').symm

end Sys2Proof.Machine
end

section
/-! PROOFS. A step from a state with the invariant never faults, and what reset sets. -/

namespace Sys2Proof.Machine

open Sys2Proof

/-! ### No fault (rules R85, R281) -/

/-- In an instance whose rows stay inside the permission RAM an aperture access is refused, not decoded, or checked: the
entry that it selects exists (rules R55, R85, R201). -/
theorem apertureAccess_safe {s : State} (hc : s.cfg.wf = true) (a : Aperture) (off : Word) (size : Nat) (x : Access)
    (m : Word) (secure : Bool) : safe (apertureAccess a off size x m secure s) := by
  by_cases hfits : apertureFits (s.cfg.aperture a) off size = true
  · cases hw : s.winEn.get a with
    | false => rw [apertureAccess_disabled hfits hw]; exact nofun
    | true => rw [apertureAccess_enabled hc hfits hw]; exact nofun
  · rw [(apertureAccess_refused_iff ..).mpr hfits]
    exact nofun

/-- A configuration access completes, so it does not fault (rule R100). -/
theorem ConfigOutcome.safe {s : State} {k : OpKind} {r : Result} (h : ConfigOutcome s k r) : Machine.safe r := by
  obtain ⟨t, rfl, -⟩ := h.completes
  exact nofun

/-- In an instance whose rows stay inside the permission RAM no instruction faults. The last case is that of the
configuration accesses. -/
theorem exec_safe {s : State} (hc : s.cfg.wf = true) (i : Instr) : safe (exec i s) := by
  cases i with
  | apRd32b | apWr32b | apRd64kb | apWr64kb | apRd1mb | apWr1mb | apRd512mb | apWr512mb =>
    exact apertureAccess_safe hc _ _ _ _ _ _
  | reset => exact nofun
  | _ => exact (exec_config (by rintro _ ⟨⟩) (by rintro ⟨⟩) s).safe

/-- Settles O14: an idle step answers its own state, the decoder refuses, and a decoded instruction does not fault where
the table keeps rule R85's bound, which the invariant holds. -/
theorem invExcludesFaults : Obligations.InvExcludesFaults := by
  intro s ⟨hcfg, _⟩
  cases hin : s.inbox with
  | nil => rw [step_of_inbox_nil hin]; exact nofun
  | cons d rest =>
    cases hd : decode s.cfg d with
    | error r => rw [step_of_decode_error hin hd]; exact nofun
    | ok i => rw [step_of_decode_ok hin hd]; exact exec_safe (s := { s with inbox := rest }) hcfg i

/-! ### Reset (rules R270 to R273) -/

/-- The Master-ID registers after reset: the masked parameters in the first four, 0 in the others (rule R25). -/
theorem midReset_getElem (c : Config) (i : Fin 20) :
    (midReset c)[i] = if h : i.val < 4 then c.midReset[i.val] &&& 0xC3FF03FF#32 else 0#32 := by
  fin_cases i <;> rfl

/-- Settles O59, field by field of the reset state. -/
theorem resetSetsEveryRegister : Obligations.ResetSetsEveryRegister := by
  intro s
  have windows : ∀ a, s.resetBlock.winEn.get a = false := WinEn.get_all false
  have line : s.resetBlock.irq = false := irqIsSomePendingUnmaskedSource.2 s.cfg s.draws
  exact ⟨s.resetBlock, rfl, rfl, rfl, rfl, rfl, rfl, rfl, rfl, rfl, midReset_getElem s.cfg, fun _ => rfl,
    wf_afterReset s.cfg s.draws, windows, line, rfl, rfl, rfl, rfl, rfl⟩

end Sys2Proof.Machine
end
